-- ==== Sys2Proof/Word.lean ====
section
/-! DEFINITION. The word and byte types of the block (R6, R9). -/

namespace Sys2Proof

/-- A 32-bit register, checksum or engine state (R6, R15). -/
abbrev Word := BitVec 32

/-- One byte of the input buffer (R6, R9). -/
abbrev Byte := BitVec 8

end Sys2Proof
end

