-- ==== Sys2Proof/Config.lean ====
section
/-! DEFINITION. What an implementation fixes (R7, R8) and the free values the spec leaves open. -/

namespace Sys2Proof

/-- `ADDR_WIDTH`: the width of the input-buffer bus address (R7). -/
inductive AddrWidth where
  | w32
  | w64
deriving DecidableEq, Repr

/-- The number of address bits. -/
def AddrWidth.bits : AddrWidth → Nat
  | .w32 => 32
  | .w64 => 64

/-- The parameters a model takes as arguments (R7).  They never change: `State` carries them as a
constant, so that a statement over all states holds for every part. -/
structure Params where
  /-- `N_CTX - 1`: the type says that `N_CTX` is 1 to 256. -/
  lastCtx   : Fin 256
  addrWidth : AddrWidth
  /-- `HAS_SERIAL`: the bit-serial engine is present. -/
  hasSerial : Bool
  /-- `REG_BASE`: the platform's base address of the register window (R46). -/
  regBase   : Nat
deriving DecidableEq, Repr

/-- `N_CTX`, the number of accumulator contexts, 1 to 256 (R7). -/
def Params.nCtx (p : Params) : Nat := p.lastCtx.val + 1

/-- `2^ADDR_WIDTH`: one past the last address of the input-buffer space (R38, R61). -/
def Params.addrLimit (p : Params) : Nat := 2 ^ p.addrWidth.bits

/-- The default configuration of 95_test_vectors.md: N_CTX = 4, ADDR_WIDTH = 32, HAS_SERIAL = 1.
DESIGN CHOICE (log 2), unsafe: the spec leaves every parameter open, and gives no REG_BASE at all. -/
def Params.default : Params where
  lastCtx   := 3
  addrWidth := .w32
  hasSerial := true
  regBase   := 0x40000000

/-- `CRC32C_FOLD`: how many bytes the CRC32C path folds per engine step (R8). -/
inductive Crc32cFold where
  | one
  | four
  | eight
deriving DecidableEq, Repr

/-- `TABLE_SLICE`: the slicing of the lookup table (R8). -/
inductive TableSlice where
  | one
  | eight
  | sixteen
deriving DecidableEq, Repr

/-- The build-time engine parameters (R8).  No rule depends on them (R78): they choose among the
engines of Machine/Engine.lean and are no part of the state. `CRC32_FOLD` is fixed at 1. -/
structure Build where
  crc32cFold : Crc32cFold
  tableSlice : TableSlice
deriving DecidableEq, Repr

/-- Free value: how many host moves come before a coming block step, where the state's own script
`sched` has run out (R12, R106: every interleaving; R65: finite, hence weakly fair).  Log 4. -/
opaque Config.hostBurst : Nat → Nat

/-- Free value: which of the values a raced byte held its read returns (R51).  Log 9. -/
opaque Config.freePick : Nat → Nat

/-- Free value: one unspecified bit (R24, R36, R62).  Log 6, log 7, log 8. -/
opaque Config.freeBit : Nat → Bool

/-- Free value: an unspecified byte-wide field (R36).  Log 7. -/
opaque Config.freeByte : Nat → Byte

/-- Free value: an unspecified 32-bit field (R24, R36, R62).  Log 6, log 7, log 8. -/
opaque Config.freeWord : Nat → Word

/-- Free value: an unspecified address field (R36).  Log 7. -/
opaque Config.freeAddr : Nat → BitVec 64

end Sys2Proof
end

