-- ==== Sys2Proof/Syntax.lean ====
section
/-! DEFINITION. The commands of the block: one constructor per row of spec/opcode_table.json (R55). -/

namespace Sys2Proof

/-- The two checksum algorithms: `alg` 0 is CRC32, `alg` 1 is CRC32C (R24, R68). -/
inductive Alg where
  | crc32
  | crc32c
deriving DecidableEq, Repr

/-- The algorithm a one-bit `alg` field stands for (R24). -/
def Alg.ofBit : Bool → Alg
  | false => .crc32
  | true  => .crc32c

/-- The seven opcodes (R55). -/
inductive Opcode where
  | crc32
  | crc32c
  | newCrc32
  | newCrc32c
  | update
  | checksum
  | drop
deriving DecidableEq, Repr

/-- The data commands: the three that read the input buffer (R55). -/
def Opcode.isData : Opcode → Bool
  | .crc32 => true
  | .crc32c => true
  | .update => true
  | .newCrc32 => false
  | .newCrc32c => false
  | .checksum => false
  | .drop => false

/-- A command.  `k` is the context index, the command word's only operand field (R54); the other
operands are the registers PREV, ADDR, LEN and CTRL, latched at issue. -/
inductive Instr where
  /-- CRC32 of LEN bytes at ADDR, continuing from PREV (R80). -/
  | crc32
  /-- CRC32C of LEN bytes at ADDR, continuing from PREV (R81). -/
  | crc32c
  /-- Constructs a CRC32 accumulator in context `k` (R88). -/
  | newCrc32 (k : Nat)
  /-- Constructs a CRC32C accumulator in context `k` (R89). -/
  | newCrc32c (k : Nat)
  /-- Folds LEN bytes at ADDR into accumulator `k` (R90). -/
  | update (k : Nat)
  /-- Reads accumulator `k` into RESULT (R91). -/
  | checksum (k : Nat)
  /-- Ends accumulator `k` (R92). -/
  | drop (k : Nat)
deriving DecidableEq, Repr

/-- The opcode of a command. -/
def Instr.opcode : Instr → Opcode
  | .crc32 => .crc32
  | .crc32c => .crc32c
  | .newCrc32 _ => .newCrc32
  | .newCrc32c _ => .newCrc32c
  | .update _ => .update
  | .checksum _ => .checksum
  | .drop _ => .drop

/-- The CTX operand; 0 for the two primitive commands, whose CTX field must be 0 (R53, R56). -/
def Instr.ctx : Instr → Nat
  | .crc32 => 0
  | .crc32c => 0
  | .newCrc32 k => k
  | .newCrc32c k => k
  | .update k => k
  | .checksum k => k
  | .drop k => k

/-- The assembler's spelling of a command (R58). -/
def Instr.asm : Instr → String
  | .crc32 => "crc32"
  | .crc32c => "crc32c"
  | .newCrc32 k => "new.crc32 " ++ toString k
  | .newCrc32c k => "new.crc32c " ++ toString k
  | .update k => "update " ++ toString k
  | .checksum k => "checksum " ++ toString k
  | .drop k => "drop " ++ toString k

end Sys2Proof
end

