-- ==== Sys2Proof/Machine/State.lean ====
section
/-! DEFINITION. The state of the machine, all of it plain data, and its reset (R13 to R26, R36). -/

namespace Sys2Proof.Machine

/-- The error codes of STATUS.ERRCODE (R98).  Codes 8 to 15 are never produced (S5): the type has
no such value (log 18). -/
inductive ErrCode where
  | noError
  | illegalCmd
  | badCtx
  | ctxInvalid
  | ctxInUse
  | lenRange
  | addrRange
  | busError
deriving DecidableEq, Repr

/-- The stored fields of STATUS (R22).  ERR is not stored: it follows ERRCODE (`Status.err`). -/
structure Status where
  busy    : Bool
  done    : Bool
  overrun : Bool
  errcode : ErrCode
deriving DecidableEq, Repr

/-- One accumulator context (R24). -/
structure Context where
  valid : Bool
  alg   : Alg
  acc   : Word
deriving DecidableEq, Repr

/-- The in-flight command latch `OP` (R25). -/
structure Latch where
  active : Bool
  opc    : Opcode
  /-- the context index, 8 bits -/
  k      : Byte
  alg    : Alg
  /-- the buffer's address; `ADDR_WIDTH` bits, zero-extended to 64 -/
  addr   : BitVec 64
  len    : Word
  serial : Bool
  /-- the number of bytes consumed so far -/
  idx    : Word
  /-- `OP.S`, the engine state of R76 -/
  S      : Word
deriving DecidableEq, Repr

/-- The launch memory: the bytes the platform admits the block to read (R38, R39), in one
canonical form, addresses strictly rising.  An unlisted address is one whose read is refused:
`MemRead` raises BusError there (log 3). -/
abbrev Memory := List Host.Cell

/-- The width of a host access to the bus (R45). -/
inductive AccessWidth where
  | byte
  | half
  | word
  | dword
deriving DecidableEq, Repr

/-- One access or event from outside the block, in the order they come (R12, R59; log 1). -/
inductive HostOp where
  /-- `wr`: a host store of `v` to the bus address `a` (R59); only a 32-bit aligned one is a register
  access (R45). -/
  | wr (a : Nat) (width : AccessWidth) (v : Word)
  /-- `rd`: a host load from the bus address `a` (R59). -/
  | rd (a : Nat) (width : AccessWidth)
  /-- `wait`: poll STATUS until BUSY = 0 (R60). -/
  | wait
  /-- the host or another agent stores one byte of the input-buffer space (R49, R51). -/
  | store (a : Nat) (b : Byte)
  /-- the reset input is asserted (R115). -/
  | reset
deriving DecidableEq, Repr

/-- Why the machine stops with a fault.  No command's meaning raises one: these are faults of the
host program. -/
inductive Fault where
  /-- Raised by a host access to the register window that is not an aligned 32-bit access (R45, S6):
  the spec itself models it as a fault of the host program.  Safe: nothing is claimed of it. -/
  | badRegisterAccess
  /-- Raised by a `wr` or `rd` outside the register window: no access to the block (log 11).  Safe. -/
  | outsideWindow
  /-- Raised by a host store to a byte the launch memory does not have (log 12).  Safe. -/
  | storeUnmapped
deriving DecidableEq, Repr

/-- Why a step has no meaning. -/
inductive Refusal where
  /-- Raised by an arm of `exec` whose instruction has no meaning yet.  Safe. -/
  | notModelled (mnemonic : String)
  /-- Raised by the issue of a data command whose buffer lies in a region with read side effects:
  R44 says that the model gives it no meaning and refuses such a launch (S3, log 10).  Safe. -/
  | readSideEffects
deriving DecidableEq, Repr

/-- The whole machine: the block (R13), its parameters (R7), the memory it reads (R37) and the host
that drives it (R12), with the model's own bookkeeping. -/
structure State where
  /-- the parameters of R7; constant -/
  params      : Params
  /-- STATUS (R22) -/
  status      : Status
  /-- CTRL.FORCE_SERIAL (R16) -/
  forceSerial : Bool
  /-- PREV (R18) -/
  prev        : Word
  /-- ADDR_LO (R19) -/
  addrLo      : Word
  /-- ADDR_HI (R19) -/
  addrHi      : Word
  /-- LEN (R20) -/
  len         : Word
  /-- RESULT (R21) -/
  result      : Word
  /-- the accumulator context file `ctx[0..N_CTX-1]` (R24) -/
  ctxs        : List Context
  /-- the in-flight command latch (R25) -/
  op          : Latch
  /-- the input-buffer space (R37, R38) -/
  mem         : Memory
  /-- the platform's regions (base, size) whose reads have side effects (R44); constant -/
  sideEffects : List (Nat × Nat)
  /-- the host's accesses still to come, next one first (R12, R59) -/
  host        : List HostOp
  /-- the values the host's `rd` accesses returned, newest first (R59) -/
  reads       : List Word
  /-- MODEL'S OWN: the host moves before each coming block step (R12, R106; log 4) -/
  sched       : List Nat
  /-- MODEL'S OWN: the bytes of the buffer in flight overwritten since issue, each with the value
  it held, newest first (R51; log 9) -/
  raced       : List Host.Cell
  /-- MODEL'S OWN: how many free values have been drawn -/
  draws       : Nat
deriving DecidableEq, Repr

/-- STATUS after reset (R36). -/
def Status.reset : Status := { busy := false, done := false, overrun := false, errcode := .noError }

/-- A context after reset: free.  R36 leaves `alg` and `acc` unspecified: DESIGN CHOICE 0 (log 5), unsafe. -/
def Context.reset : Context := { valid := false, alg := .crc32, acc := 0#32 }

/-- The latch after reset: inactive.  R36 leaves its other fields unspecified: DESIGN CHOICE, zero
throughout and the first opcode (log 7), unsafe. -/
def Latch.reset : Latch :=
  { active := false, opc := .crc32, k := 0#8, alg := .crc32, addr := 0#64, len := 0#32,
    serial := false, idx := 0#32, S := 0#32 }

/-- The machine right after reset on a part with parameters `p`, with nothing loaded from outside (R36). -/
def State.resetWith (p : Params) : State where
  params := p
  status := Status.reset
  forceSerial := false
  prev := 0#32
  addrLo := 0#32
  addrHi := 0#32
  len := 0#32
  result := 0#32
  ctxs := List.replicate p.nCtx Context.reset
  op := Latch.reset
  mem := []
  sideEffects := []
  host := []
  reads := []
  sched := []
  raced := []
  draws := 0

/-- The machine right after reset, in the default configuration of 95_test_vectors.md (log 2). -/
def State.reset : State := State.resetWith Params.default

end Sys2Proof.Machine
end

