-- ==== Sys2Proof/Machine/Flags.lean ====
section
/-! DEFINITION. The STATUS register: its word and everything that sets or clears its fields (R22, R31, R32). -/

namespace Sys2Proof.Machine

/-- The 4-bit ERRCODE of each error (R98). -/
def ErrCode.bits : ErrCode → BitVec 4
  | .noError => 0#4
  | .illegalCmd => 1#4
  | .badCtx => 2#4
  | .ctxInvalid => 3#4
  | .ctxInUse => 4#4
  | .lenRange => 5#4
  | .addrRange => 6#4
  | .busError => 7#4

/-- ERR reads as 1 exactly when ERRCODE != 0 (R22). -/
def Status.err (st : Status) : Bool := decide (st.errcode.bits ≠ 0#4)

/-- The word a host read of STATUS returns: {20'b0, ERRCODE, 4'b0, ERR, OVERRUN, DONE, BUSY} (R32). -/
def Status.word (st : Status) : Word :=
  0#20 ++ st.errcode.bits ++ 0#4 ++ BitVec.ofBool st.err ++ BitVec.ofBool st.overrun
    ++ BitVec.ofBool st.done ++ BitVec.ofBool st.busy

/-- A host write of `v` to STATUS: bit 1 clears DONE, bit 2 clears OVERRUN, nothing else (R31). -/
def Status.write (v : Word) (st : Status) : Status :=
  { st with
    done := if v.getLsbD 1 then false else st.done
    overrun := if v.getLsbD 2 then false else st.overrun }

/-- An accepted issue: DONE and ERRCODE cleared, BUSY set (R62). -/
def Status.issued (st : Status) : Status := { st with busy := true, done := false, errcode := .noError }

/-- The end of a command with code `e`, 0 for success: ERRCODE, DONE set, BUSY clear (R64, R100). -/
def Status.ended (e : ErrCode) (st : Status) : Status := { st with busy := false, done := true, errcode := e }

/-- A CMD write while BUSY: OVERRUN set, nothing else (R102). -/
def Status.overran (st : Status) : Status := { st with overrun := true }

end Sys2Proof.Machine
end

