-- ==== Sys2Proof/Machine/Operands.lean ====
section
/-! DEFINITION. The operands of a command (R54): the registers as they read, and the buffer's bytes. -/

namespace Sys2Proof.Machine

/-- ADDR_HI as it reads: hardwired 0 when ADDR_WIDTH = 32 (R19). -/
def addrHiReg (s : State) : Word :=
  match s.params.addrWidth with
  | .w32 => 0#32
  | .w64 => s.addrHi

/-- `ADDR`: {ADDR_HI, ADDR_LO} on a 64-bit part, ADDR_LO on a 32-bit one (R19). -/
def addrOperand (s : State) : BitVec 64 := addrHiReg s ++ s.addrLo

/-- CTRL.FORCE_SERIAL as it reads: hardwired 0 when HAS_SERIAL = 0 (R16). -/
def forceSerialBit (s : State) : Bool := s.params.hasSerial && s.forceSerial

/-- Context `k` of the file (R24). -/
def ctxAt (s : State) (k : Nat) : Context := s.ctxs.getD k Context.reset

/-- The latch that issue fills from ADDR, LEN and CTRL, for opcode `o` and context `k`, with the
algorithm and the initial engine state given (R62). -/
def latchFor (s : State) (o : Opcode) (k : Nat) (a : Alg) (S : Word) : Latch where
  active := true
  opc := o
  k := BitVec.ofNat 8 k
  alg := a
  addr := addrOperand s
  len := s.len
  serial := forceSerialBit s
  idx := 0#32
  S := S

/-- Whether the region (base, size) meets the `n` bytes at `a`. -/
def regionMeets (r : Nat × Nat) (a n : Nat) : Bool := decide (max r.1 a < min (r.1 + r.2) (a + n))

/-- Some byte of `[ADDR, ADDR + LEN)` has read side effects: the host duty R44.1 is broken. -/
def bufferHasSideEffects (s : State) : Bool :=
  s.sideEffects.any fun r => regionMeets r (addrOperand s).toNat s.len.toNat

end Sys2Proof.Machine
end

