-- ==== Sys2Proof/Machine/Ops.lean ====
section
/-! DEFINITION. The named operations over memory, registers and contexts; ending a command with an error or with success. -/

namespace Sys2Proof.Machine

/-! ## Memory (R37 to R43) -/

/-- The byte the launch memory admits a read of at `a`, none where it refuses (R39). -/
def Memory.read : Memory → Nat → Option Byte
  | [], _ => none
  | (x, b) :: m, a => if x = a then some b else Memory.read m a

/-- Places the byte `b` at `a`, keeping the addresses strictly rising. -/
def Memory.write : Memory → Nat → Byte → Memory
  | [], a, b => [(a, b)]
  | (x, c) :: m, a, b =>
    if a < x then (a, b) :: (x, c) :: m
    else if x = a then (a, b) :: m
    else (x, c) :: Memory.write m a b

/-- The canonical form: addresses strictly rising.  No byte equals what an unlisted address reads
as (BusError), so nothing else is asked. -/
def Memory.wf : Memory → Bool
  | [] => true
  | [_] => true
  | c :: d :: m => decide (c.1 < d.1) && Memory.wf (d :: m)

/-- The bytes of `[a, a + n)`, in address order, if the launch memory admits every one (R40). -/
def Memory.bytes? (m : Memory) : Nat → Nat → Option (List Byte)
  | _, 0 => some []
  | a, n + 1 =>
    match Memory.read m a, Memory.bytes? m (a + 1) n with
    | some b, some d => some (b :: d)
    | _, _ => none

/-! ## One field at a time -/

def State.setStatus (s : State) (st : Status) : State := { s with status := st }
def State.setForceSerial (s : State) (b : Bool) : State := { s with forceSerial := b }
def State.setPrev (s : State) (v : Word) : State := { s with prev := v }
def State.setAddrLo (s : State) (v : Word) : State := { s with addrLo := v }
def State.setAddrHi (s : State) (v : Word) : State := { s with addrHi := v }
def State.setLen (s : State) (v : Word) : State := { s with len := v }
def State.setResult (s : State) (v : Word) : State := { s with result := v }
def State.setCtxs (s : State) (cs : List Context) : State := { s with ctxs := cs }
def State.setOp (s : State) (o : Latch) : State := { s with op := o }
def State.setMem (s : State) (m : Memory) : State := { s with mem := m }
def State.setHost (s : State) (h : List HostOp) : State := { s with host := h }
def State.setReads (s : State) (l : List Word) : State := { s with reads := l }
def State.setSched (s : State) (l : List Nat) : State := { s with sched := l }
def State.setRaced (s : State) (l : List Host.Cell) : State := { s with raced := l }
def State.setDraws (s : State) (n : Nat) : State := { s with draws := n }

/-- `ctx[k] <- c`; no other context is touched (R95). -/
def State.setCtx (s : State) (k : Nat) (c : Context) : State := s.setCtxs (s.ctxs.set k c)

/-- The latch with `OP.active` clear; its other fields keep their values (R64, R100; log 7). -/
def Latch.idle (o : Latch) : Latch := { o with active := false }

/-! ## Reading the input buffer (R39, R51) -/

/-- The values, newest first, that the byte at `a` held since issue and holds no more (R51). -/
def olderValues : List Host.Cell → Nat → List Byte
  | [], _ => []
  | (x, b) :: l, a => if x = a then b :: olderValues l a else olderValues l a

/-- A read of a byte whose current value is `cur`: that value, or, where it was overwritten since
issue, a free choice among the values it held between issue and this read (R51, log 9). -/
def pickHeld (s : State) (a : Nat) (cur : Byte) : Byte :=
  match olderValues s.raced a with
  | [] => cur
  | b :: l => (cur :: b :: l).getD (Config.freePick s.draws % (l.length + 2)) cur

/-- `MemRead(a, 1)`: a byte, or none for BusError (R39). -/
def memRead (s : State) (a : Nat) : Option Byte := (Memory.read s.mem a).map (pickHeld s a)

/-! ## The end of a command (R64, R100): the machine's one error entry, and its success -/

/-- `raise Error(code)`: ERRCODE and DONE are set, BUSY and OP.active cleared; nothing else changes
(R100).  There is no saved state, vector or mode (R103) and no return (R104). -/
def raiseError (e : ErrCode) (s : State) : State := (s.setStatus (s.status.ended e)).setOp s.op.idle

/-- The STATUS and OP writes of `complete()`, made in the same step as the command's own (R64). -/
def finish (s : State) : State := (s.setStatus (s.status.ended .noError)).setOp s.op.idle

/-! ## The checks made at issue (R61, R99) -/

/-- The first failing check of a sequence (R61, R99). -/
def firstError : List ErrCode → ErrCode
  | [] => .noError
  | e :: es => if e = .noError then firstError es else e

/-- Check 2: the context index (R61). -/
def checkIndex (k : Nat) (s : State) : ErrCode := if s.params.nCtx ≤ k then .badCtx else .noError

/-- Check 3 of NEW_CRC32 and NEW_CRC32C: the context must be free (R61). -/
def checkFree (k : Nat) (s : State) : ErrCode := if (ctxAt s k).valid then .ctxInUse else .noError

/-- Check 3 of UPDATE, CHECKSUM and DROP: the context must be constructed (R61). -/
def checkLive (k : Nat) (s : State) : ErrCode := if (ctxAt s k).valid then .noError else .ctxInvalid

/-- Check 4, the length: LEN >= 0x80000000 is refused (R61). -/
def checkLen (s : State) : ErrCode := if 0x80000000 ≤ s.len.toNat then .lenRange else .noError

/-- Check 4, the address: the exact sum ADDR + LEN must not pass 2^ADDR_WIDTH (R61, R40). -/
def checkAddr (s : State) : ErrCode :=
  if s.params.addrLimit < (addrOperand s).toNat + s.len.toNat then .addrRange else .noError

/-! ## Issue (R62) -/

/-- The issue of a command whose checks passed: the latch filled, BUSY set (R62). -/
def startCommand (o : Latch) (s : State) : State :=
  ((s.setStatus s.status.issued).setOp o).setRaced []

/-- The issue of a word whose checks gave `e` (R62): dropped with OVERRUN while BUSY (R102), ended
at issue on an error (R100), else started by `start`. -/
def acceptCommand (e : ErrCode) (start : State → State) (s : State) : State :=
  if s.status.busy then s.setStatus s.status.overran
  else if e = .noError then start s
  else raiseError e s

/-- The start of a context command.  `OP.alg` and `OP.S` are unspecified and unused: free values
(R62, S2, log 8). -/
def startContext (o : Opcode) (k : Nat) (s : State) : State :=
  (startCommand (latchFor s o k (Alg.ofBit (Config.freeBit s.draws)) (Config.freeWord s.draws)) s).setDraws
    (s.draws + 1)

/-- The issue of a context command (R62). -/
def issueContext (e : ErrCode) (o : Opcode) (k : Nat) (s : State) : Host.Outcome State Fault Refusal :=
  .next (acceptCommand e (startContext o k) s)

/-- The issue of a data command (R62).  A buffer in a region with read side effects has no meaning:
such a launch is refused (R44, S3, log 10). -/
def issueData (e : ErrCode) (o : Opcode) (k : Nat) (a : Alg) (S : Word) (s : State) :
    Host.Outcome State Fault Refusal :=
  if !s.status.busy && decide (e = .noError) && bufferHasSideEffects s then .refused .readSideEffects
  else .next (acceptCommand e (startCommand (latchFor s o k a S)) s)

/-- The issue of an illegal word: ILLEGAL_CMD at issue, or dropped while BUSY (R56, R62). -/
def issueIllegal (s : State) : State := acceptCommand .illegalCmd (fun t => t) s

/-! ## Reset (R115) -/

/-- A context after the reset input: free, with `alg` and `acc` unspecified (R36, log 6). -/
def Context.afterReset (n : Nat) : Context :=
  { valid := false, alg := Alg.ofBit (Config.freeBit n), acc := Config.freeWord n }

/-- Contexts `n` free draws on, one for each of `k` places. -/
def freeContexts : Nat → Nat → List Context
  | _, 0 => []
  | n, k + 1 => Context.afterReset n :: freeContexts (n + 1) k

/-- An opcode out of a free byte: each of the seven is possible. -/
def freeOpcode (b : Byte) : Opcode :=
  if b = 0#8 then .crc32
  else if b = 1#8 then .crc32c
  else if b = 2#8 then .newCrc32
  else if b = 3#8 then .newCrc32c
  else if b = 4#8 then .update
  else if b = 5#8 then .checksum
  else .drop

/-- The latch after the reset input: inactive, every other field unspecified (R36, S2, log 7). -/
def Latch.afterReset (n : Nat) : Latch where
  active := false
  opc := freeOpcode (Config.freeByte n)
  k := Config.freeByte (n + 1)
  alg := Alg.ofBit (Config.freeBit n)
  addr := Config.freeAddr n
  len := Config.freeWord n
  serial := Config.freeBit (n + 1)
  idx := Config.freeWord (n + 1)
  S := Config.freeWord (n + 2)

/-- The reset input (R115): every register and context to the values of R36, the command in flight
abandoned with no completion.  Memory, the platform and the host's accesses are not the block's. -/
def resetBlock (s : State) : State :=
  { s with
    status := Status.reset
    forceSerial := false
    prev := 0#32
    addrLo := 0#32
    addrHi := 0#32
    len := 0#32
    result := 0#32
    ctxs := freeContexts (s.draws + 3) s.params.nCtx
    op := Latch.afterReset s.draws
    raced := []
    draws := s.draws + 3 + s.params.nCtx }

end Sys2Proof.Machine
end

