-- ==== Sys2Proof/Machine/Accumulator.lean ====
section
/-! DEFINITION. The accumulator commands: issue and own completion writes (R87 to R92). -/

namespace Sys2Proof.Machine

/-- NEW_CRC32 k, at issue: the context must exist and be free (R61, R88). -/
def execNewCrc32 (k : Nat) (s : State) : Host.Outcome State Fault Refusal :=
  issueContext (firstError [checkIndex k s, checkFree k s]) .newCrc32 k s

/-- NEW_CRC32, at completion: ctx[k] <- {valid 1, alg 0, acc 0} (R88). -/
def completeNewCrc32 (s : State) : State :=
  s.setCtx s.op.k.toNat { valid := true, alg := .crc32, acc := 0#32 }

/-- NEW_CRC32C k, at issue (R61, R89). -/
def execNewCrc32c (k : Nat) (s : State) : Host.Outcome State Fault Refusal :=
  issueContext (firstError [checkIndex k s, checkFree k s]) .newCrc32c k s

/-- NEW_CRC32C, at completion: ctx[k] <- {valid 1, alg 1, acc 0} (R89). -/
def completeNewCrc32c (s : State) : State :=
  s.setCtx s.op.k.toNat { valid := true, alg := .crc32c, acc := 0#32 }

/-- UPDATE k, at issue: the context's algorithm, the engine state starts at ~ctx[k].acc (R62, R90). -/
def execUpdate (k : Nat) (s : State) : Host.Outcome State Fault Refusal :=
  issueData (firstError [checkIndex k s, checkLive k s, checkLen s, checkAddr s]) .update k
    (ctxAt s k).alg (~~~ (ctxAt s k).acc) s

/-- UPDATE, at completion: ctx[k].acc <- ~OP.S (R90). -/
def completeUpdate (s : State) : State :=
  s.setCtx s.op.k.toNat { ctxAt s s.op.k.toNat with acc := ~~~ s.op.S }

/-- CHECKSUM k, at issue (R61, R91). -/
def execChecksum (k : Nat) (s : State) : Host.Outcome State Fault Refusal :=
  issueContext (firstError [checkIndex k s, checkLive k s]) .checksum k s

/-- CHECKSUM, at completion: RESULT <- ctx[k].acc, the context unchanged (R91). -/
def completeChecksum (s : State) : State := s.setResult (ctxAt s s.op.k.toNat).acc

/-- DROP k, at issue (R61, R92). -/
def execDrop (k : Nat) (s : State) : Host.Outcome State Fault Refusal :=
  issueContext (firstError [checkIndex k s, checkLive k s]) .drop k s

/-- DROP, at completion: ctx[k].valid <- 0; alg and acc become unspecified, free values (R92, log 6). -/
def completeDrop (s : State) : State :=
  (s.setCtx s.op.k.toNat
    { valid := false, alg := Alg.ofBit (Config.freeBit s.draws), acc := Config.freeWord s.draws }).setDraws
      (s.draws + 1)

end Sys2Proof.Machine
end

