-- ==== Sys2Proof/Machine/Engine.lean ====
section
/-! DEFINITION. The CRC arithmetic and the engines that compute it (40_crc_engine.md R67 to R79). -/

namespace Sys2Proof.Machine

/-! ## The bit-serial engine (R67, R68) -/

/-- One bit step for a reflected polynomial (R67), at any register width: R74 runs it on the wider
register of a word fold. -/
def bitStep {n : Nat} (P S : BitVec n) : BitVec n :=
  if S.getLsbD 0 then (S >>> 1) ^^^ P else S >>> 1

/-- `k` bit steps. -/
def bitSteps {n : Nat} (P : BitVec n) : Nat → BitVec n → BitVec n
  | 0, S => S
  | k + 1, S => bitSteps P k (bitStep P S)

/-- `serial_byte`: the byte enters the low end of the state, bit 0 is shifted out first (R67). -/
def serialByte (P S : Word) (b : Byte) : Word := bitSteps P 8 (S ^^^ b.setWidth 32)

/-- The reflected polynomial of each algorithm (R68). -/
def poly : Alg → Word
  | .crc32 => 0xEDB88320#32
  | .crc32c => 0x82F63B78#32

/-! ## The table engine (R69 to R71) -/

/-- `T(P)[n]`: eight bit steps of the value `n` (R69).  `T32` is `tableEntry .crc32`, `T32C` is
`tableEntry .crc32c` (R70); both are constants, held in no state (R26). -/
def tableEntry (a : Alg) (n : Byte) : Word := bitSteps (poly a) 8 (n.setWidth 32)

/-- `table_byte`: shift right by 8 and XOR in the entry indexed by the byte shifted out (R71). -/
def tableByte (a : Alg) (S : Word) (b : Byte) : Word :=
  (S >>> 8) ^^^ tableEntry a ((S ^^^ b.setWidth 32).setWidth 8)

/-- `byte_step`, the byte step the block uses (R79). -/
def byteStep (a : Alg) (S : Word) (b : Byte) : Word := tableByte a S b

/-- The byte step of a command in flight: the bit-serial engine where `OP.serial` = 1, else the
table engine (R75). -/
def engineByte (serial : Bool) (a : Alg) (S : Word) (b : Byte) : Word :=
  if serial then serialByte (poly a) S b else byteStep a S b

/-! ## The CRC functions (R76) -/

/-- `F`: the byte steps over a byte sequence, in address order (R76). -/
def crcFold (a : Alg) : Word → List Byte → Word
  | S, [] => S
  | S, b :: d => crcFold a (byteStep a S b) d

/-- `crc`: the state starts at `~prev` and is complemented at the end (R76, conflict C1). -/
def crc (a : Alg) (d : List Byte) (prev : Word) : Word := ~~~ (crcFold a (~~~ prev) d)

/-! ## The wider engines (R73, R74): they change no value (R77, R78) -/

/-- Bytes assembled little-endian: the first byte is the least significant (R47, R74). -/
def loadLE (n : Nat) : List Byte → BitVec n
  | [] => 0#n
  | b :: bs => b.setWidth n ||| (loadLE n bs <<< 8)

/-- `fold_word`: `8m` bit steps on an `8m`-bit register; CRC32C only (R74). -/
def foldWord (m : Nat) (S : Word) (W : BitVec (8 * m)) : Word :=
  (bitSteps ((poly .crc32c).setWidth (8 * m)) (8 * m) (S.setWidth (8 * m) ^^^ W)).setWidth 32

/-- The slice tables `T_j` (R73). -/
def sliceEntry (a : Alg) : Nat → Byte → Word
  | 0, n => tableEntry a n
  | j + 1, n => (sliceEntry a j n >>> 8) ^^^ tableEntry a ((sliceEntry a j n).setWidth 8)

/-- The XOR of `T_{N-1-i}[x_i]` over the bytes `x_0 .. x_{N-1}` of a slice step (R73). -/
def sliceXor (a : Alg) : List Byte → Word
  | [] => 0#32
  | x :: xs => sliceEntry a xs.length x ^^^ sliceXor a xs

/-- The four bytes of a word, lowest first. -/
def wordBytes (X : Word) : List Byte :=
  [X.extractLsb' 0 8, X.extractLsb' 8 8, X.extractLsb' 16 8, X.extractLsb' 24 8]

/-- A slice-by-N step on the N bytes `d`, N at least 4 (R73). -/
def sliceStep (a : Alg) (S : Word) (d : List Byte) : Word :=
  sliceXor a (wordBytes (S ^^^ loadLE 32 (d.take 4)) ++ d.drop 4)

/-- One move of an engine: which bytes it takes at once, and how (R71, R73 to R75). -/
inductive EngineMove where
  | serial
  | table
  | fold4
  | fold8
  | slice8
  | slice16
deriving DecidableEq, Repr

/-- How many bytes a move consumes. -/
def EngineMove.bytes : EngineMove → Nat
  | .serial => 1
  | .table => 1
  | .fold4 => 4
  | .fold8 => 8
  | .slice8 => 8
  | .slice16 => 16

/-- The state after a move over its bytes `d`. -/
def EngineMove.run (a : Alg) (S : Word) (d : List Byte) : EngineMove → Word
  | .serial => serialByte (poly a) S (d.headD 0#8)
  | .table => tableByte a S (d.headD 0#8)
  | .fold4 => foldWord 4 S (loadLE (8 * 4) d)
  | .fold8 => foldWord 8 S (loadLE (8 * 8) d)
  | .slice8 => sliceStep a S d
  | .slice16 => sliceStep a S d

/-- Which moves a built block may make on a command with algorithm `a` and latched `serial` bit:
the bit-serial engine alone when forced (R75), else the table engine, the slice tables it was built
with (R73) and, for CRC32C only, the word fold it was built with (R74, R8). -/
def EngineMove.admitted (b : Build) (a : Alg) (serial : Bool) : EngineMove → Bool
  | .serial => serial
  | .table => !serial
  | .fold4 => !serial && decide (a = .crc32c) && decide (b.crc32cFold = .four)
  | .fold8 => !serial && decide (a = .crc32c) && decide (b.crc32cFold = .eight)
  | .slice8 => !serial && decide (b.tableSlice = .eight)
  | .slice16 => !serial && decide (b.tableSlice = .sixteen)

/-- The state after a sequence of moves that consumes exactly the bytes `d`; none if it does not
fit them.  Any sequence is a split of the buffer among the engines (R42, R78). -/
def engineRun (a : Alg) : List EngineMove → Word → List Byte → Option Word
  | [], S, [] => some S
  | [], _, _ :: _ => none
  | m :: ms, S, d =>
    if m.bytes ≤ d.length then engineRun a ms (m.run a S (d.take m.bytes)) (d.drop m.bytes) else none

end Sys2Proof.Machine
end

