-- ==== Sys2Proof/Machine/Primitive.lean ====
section
/-! DEFINITION. The primitive commands CRC32 and CRC32C: issue and own completion writes (R80, R81). -/

namespace Sys2Proof.Machine

/-- CRC32, at issue: alg 0, the engine state starts at ~PREV (R62, R80). -/
def execCrc32 (s : State) : Host.Outcome State Fault Refusal :=
  issueData (firstError [checkLen s, checkAddr s]) .crc32 0 .crc32 (~~~ s.prev) s

/-- CRC32, at completion: RESULT <- ~OP.S (R80). -/
def completeCrc32 (s : State) : State := s.setResult (~~~ s.op.S)

/-- CRC32C, at issue: alg 1, the engine state starts at ~PREV (R62, R81). -/
def execCrc32c (s : State) : Host.Outcome State Fault Refusal :=
  issueData (firstError [checkLen s, checkAddr s]) .crc32c 0 .crc32c (~~~ s.prev) s

/-- CRC32C, at completion: RESULT <- ~OP.S (R81). -/
def completeCrc32c (s : State) : State := s.setResult (~~~ s.op.S)

end Sys2Proof.Machine
end

