-- ==== Sys2Proof/Machine/Block.lean ====
section
/-! DEFINITION. The block's own steps: one byte, or the completion (R63, R64). -/

namespace Sys2Proof.Machine

/-- The in-flight command's own completion writes (R64.1). -/
def ownWrites (s : State) : State :=
  match s.op.opc with
  | .crc32 => completeCrc32 s
  | .crc32c => completeCrc32c s
  | .newCrc32 => completeNewCrc32 s
  | .newCrc32c => completeNewCrc32c s
  | .update => completeUpdate s
  | .checksum => completeChecksum s
  | .drop => completeDrop s

/-- `complete()`: the own writes and the STATUS and OP writes, in one step (R64). -/
def complete (s : State) : State := finish (ownWrites s)

/-- The address of the next byte: `OP.addr + OP.idx`, an exact sum (R40). -/
def nextAddr (s : State) : Nat := s.op.addr.toNat + s.op.idx.toNat

/-- The latch after one byte: the engine state stepped, the index advanced (R63, R75, R79). -/
def Latch.consume (b : Byte) (o : Latch) : Latch :=
  { o with S := engineByte o.serial o.alg o.S b, idx := o.idx + 1#32 }

/-- More bytes are to be read: a data command with `OP.idx < OP.len` (R63). -/
def moreBytes (s : State) : Bool := s.op.opc.isData && decide (s.op.idx.toNat < s.op.len.toNat)

/-- `block_step()` (R63).  While `OP.active` = 0 the block has no step: nothing changes. -/
def blockStep (s : State) : State :=
  if s.op.active then
    if moreBytes s then
      match memRead s (nextAddr s) with
      | some b => (s.setOp (s.op.consume b)).setDraws (s.draws + 1)
      | none => raiseError .busError s
    else complete s
  else s

/-- `n` block steps, with no host step between them. -/
def blockRun : Nat → State → State
  | 0, s => s
  | n + 1, s => blockRun n (blockStep s)

end Sys2Proof.Machine
end

