-- ==== Sys2Proof/WellFormed.lean ====
section
/-! DEFINITION. Which commands an assembler admits (R58). -/

namespace Sys2Proof

/-- An assembler refuses `k` > 255; a `k` of N_CTX or more assembles, and the block refuses it (R58). -/
def Instr.wellFormed (i : Instr) : Bool := decide (i.ctx ≤ 255)

end Sys2Proof
end

