-- ==== Sys2Proof/Decode.lean ====
section
/-! DEFINITION. Decoding a command word and encoding a command (R53 to R58, R66). -/

namespace Sys2Proof

/-- Why a word is illegal (R56).  Each completes at issue with ILLEGAL_CMD. -/
inductive DecodeError where
  /-- RSV != 0. -/
  | reservedBits
  /-- OPC is in no row of the opcode map. -/
  | unknownOpcode
  /-- CTX != 0 on CRC32 or CRC32C. -/
  | ctxNotZero
deriving DecidableEq, Repr

/-- What decoding a word gives: a command, or an illegal encoding by name. -/
inductive Decoded where
  | command (i : Instr)
  | illegal (e : DecodeError)
deriving DecidableEq, Repr

/-- The OPC field of each opcode (R55). -/
def opcodeBits : Opcode → Byte
  | .crc32 => 0x01#8
  | .crc32c => 0x02#8
  | .newCrc32 => 0x10#8
  | .newCrc32c => 0x11#8
  | .update => 0x20#8
  | .checksum => 0x30#8
  | .drop => 0x40#8

/-- The opcode an OPC field stands for, if any (R55, R56). -/
def opcodeOfBits (b : Byte) : Option Opcode :=
  if b = 0x01#8 then some .crc32
  else if b = 0x02#8 then some .crc32c
  else if b = 0x10#8 then some .newCrc32
  else if b = 0x11#8 then some .newCrc32c
  else if b = 0x20#8 then some .update
  else if b = 0x30#8 then some .checksum
  else if b = 0x40#8 then some .drop
  else none

/-- OPC, bits 7:0 (R53). -/
def opcField (w : Word) : Byte := w.extractLsb' 0 8

/-- CTX, bits 15:8 (R53). -/
def ctxField (w : Word) : Byte := w.extractLsb' 8 8

/-- RSV, bits 31:16 (R53). -/
def rsvField (w : Word) : BitVec 16 := w.extractLsb' 16 16

/-- The command an opcode and a CTX field make: `k` is the zero-extended CTX (R54), which must be 0
on the two primitive commands (R56). -/
def assemble (o : Opcode) (c : Byte) : Decoded :=
  match o with
  | .crc32 => if c = 0#8 then .command .crc32 else .illegal .ctxNotZero
  | .crc32c => if c = 0#8 then .command .crc32c else .illegal .ctxNotZero
  | .newCrc32 => .command (.newCrc32 c.toNat)
  | .newCrc32c => .command (.newCrc32c c.toNat)
  | .update => .command (.update c.toNat)
  | .checksum => .command (.checksum c.toNat)
  | .drop => .command (.drop c.toNat)

/-- Decoding is total: every 32-bit word is one command or illegal (R56, R57, R66). -/
def decode (w : Word) : Decoded :=
  if rsvField w = 0#16 then
    match opcodeOfBits (opcField w) with
    | some o => assemble o (ctxField w)
    | none => .illegal .unknownOpcode
  else .illegal .reservedBits

/-- The word of a command: {RSV = 0, CTX = k, OPC} (R53, R58). -/
def encode (i : Instr) : Word :=
  (0#16 ++ BitVec.ofNat 8 i.ctx) ++ opcodeBits i.opcode

/-- One row of the opcode table: a word is the row's when `(w & mask) == match` (R55, R66). -/
structure OpcodeRow where
  opcode : Opcode
  pattern : Word
  mask   : Word
deriving DecidableEq, Repr

/-- The match and mask of every row (R55). -/
def opcodeRows : List OpcodeRow :=
  [ ⟨.crc32,     0x00000001#32, 0xFFFFFFFF#32⟩,
    ⟨.crc32c,    0x00000002#32, 0xFFFFFFFF#32⟩,
    ⟨.newCrc32,  0x00000010#32, 0xFFFF00FF#32⟩,
    ⟨.newCrc32c, 0x00000011#32, 0xFFFF00FF#32⟩,
    ⟨.update,    0x00000020#32, 0xFFFF00FF#32⟩,
    ⟨.checksum,  0x00000030#32, 0xFFFF00FF#32⟩,
    ⟨.drop,      0x00000040#32, 0xFFFF00FF#32⟩ ]

/-- The row test of R66. -/
def OpcodeRow.hits (r : OpcodeRow) (w : Word) : Bool := decide (w &&& r.mask = r.pattern)

/-- The command in a decoded word, if it is one. -/
def Decoded.instr? : Decoded → Option Instr
  | .command i => some i
  | .illegal _ => none

/-- The command the decoder reads from an opcode-table row's word, whose bits above `nbits` are 0.
A command is exactly one 32-bit word (R57): a wider value is none. -/
def decodeTableWord (nbits w : Nat) : Option Instr :=
  if w % 2 ^ nbits < 2 ^ 32 then (decode (BitVec.ofNat 32 (w % 2 ^ nbits))).instr? else none

end Sys2Proof
end

