-- ==== Sys2Proof/Machine/Dispatch.lean ====
section
/-! DEFINITION. The meaning of each command: what its word's write to CMD does (R62). -/

namespace Sys2Proof.Machine

/-- The issue of a command: one arm per constructor (R62). -/
def exec (i : Instr) (s : State) : Host.Outcome State Fault Refusal :=
  match i with
  | .crc32 => Sys2Proof.Machine.execCrc32 s
  | .crc32c => Sys2Proof.Machine.execCrc32c s
  | .newCrc32 k => Sys2Proof.Machine.execNewCrc32 k s
  | .newCrc32c k => Sys2Proof.Machine.execNewCrc32c k s
  | .update k => Sys2Proof.Machine.execUpdate k s
  | .checksum k => Sys2Proof.Machine.execChecksum k s
  | .drop k => Sys2Proof.Machine.execDrop k s

end Sys2Proof.Machine
end

