-- ==== Sys2Proof/Machine/HostPort.lean ====
section
/-! DEFINITION. The host's side: the register window (R15 to R34), byte stores, reset, and the host statements of R59, R60. -/

namespace Sys2Proof.Machine

/-! ## The register map (R15) -/

/-- The registers of the window (R15). -/
inductive Reg where
  | cmd
  | status
  | ctrl
  | cap
  | prev
  | addrLo
  | addrHi
  | len
  | result
  /-- an offset from 0x24 to 0xFC (R27, R28) -/
  | reserved
deriving DecidableEq, Repr

/-- The register at a word offset of the window (R15). -/
def regAt (off : Nat) : Reg :=
  if off = 0x00 then .cmd
  else if off = 0x04 then .status
  else if off = 0x08 then .ctrl
  else if off = 0x0C then .cap
  else if off = 0x10 then .prev
  else if off = 0x14 then .addrLo
  else if off = 0x18 then .addrHi
  else if off = 0x1C then .len
  else if off = 0x20 then .result
  else .reserved

/-- The word offset of a named register (R15); 0x24 for the reserved ones. -/
def Reg.offset : Reg → Nat
  | .cmd => 0x00
  | .status => 0x04
  | .ctrl => 0x08
  | .cap => 0x0C
  | .prev => 0x10
  | .addrLo => 0x14
  | .addrHi => 0x18
  | .len => 0x1C
  | .result => 0x20
  | .reserved => 0x24

/-- The bytes an access covers. -/
def AccessWidth.bytes : AccessWidth → Nat
  | .byte => 1
  | .half => 2
  | .word => 4
  | .dword => 8

/-- What a host access to the bus reaches. -/
inductive Target where
  /-- no byte of the register window -/
  | outside
  /-- the window, but not by an aligned 32-bit access (R45) -/
  | bad
  | reg (r : Reg)
deriving DecidableEq, Repr

/-- Whether an access of `n` bytes at `a` meets the 256-byte window at REG_BASE (R15, R46). -/
def meetsWindow (p : Params) (a n : Nat) : Bool := decide (p.regBase < a + n ∧ a < p.regBase + 0x100)

/-- What a host access reaches: only an aligned 32-bit access reaches a register (R45). -/
def targetOf (p : Params) (a : Nat) (w : AccessWidth) : Target :=
  if meetsWindow p a w.bytes then
    if w = .word ∧ p.regBase ≤ a ∧ (a - p.regBase) % 4 = 0 then .reg (regAt (a - p.regBase)) else .bad
  else .outside

/-- CAP: N_CTX in bits 8:0, HAS_SERIAL in bit 16, ADDR64 in bit 24 (R17). -/
def capWord (p : Params) : Word :=
  0#7 ++ BitVec.ofBool (decide (p.addrWidth = .w64)) ++ 0#7 ++ BitVec.ofBool p.hasSerial ++ 0#7
    ++ BitVec.ofNat 9 p.nCtx

/-- What a host read of a register returns (R16 to R23, R27, R32, R34).  A read has no side effect. -/
def readReg (r : Reg) (s : State) : Word :=
  match r with
  | .cmd => 0#32
  | .status => s.status.word
  | .ctrl => (BitVec.ofBool (forceSerialBit s)).setWidth 32
  | .cap => capWord s.params
  | .prev => s.prev
  | .addrLo => s.addrLo
  | .addrHi => addrHiReg s
  | .len => s.len
  | .result => s.result
  | .reserved => 0#32

/-- A host write of `w` to CMD: the issue of command `w` (R23, R33, R62). -/
def writeCmd (w : Word) (s : State) : Host.Outcome State Fault Refusal :=
  match decode w with
  | .command i => exec i s
  | .illegal _ => .next (issueIllegal s)

/-- A host write of `v` to ADDR_HI: ignored when ADDR_WIDTH = 32 (R19, R29). -/
def writeAddrHi (v : Word) (s : State) : State :=
  match s.params.addrWidth with
  | .w32 => s
  | .w64 => s.setAddrHi v

/-- A host write of `v` to CTRL: bit 0, ignored when HAS_SERIAL = 0 (R16, R30). -/
def writeCtrl (v : Word) (s : State) : State :=
  if s.params.hasSerial then s.setForceSerial (v.getLsbD 0) else s

/-- A host write of `v` to a register (R28 to R31, R33).  It is accepted while BUSY = 1 and does not
reach the latch of the command in flight (R25, R29, R30). -/
def writeReg (r : Reg) (v : Word) (s : State) : Host.Outcome State Fault Refusal :=
  match r with
  | .cmd => writeCmd v s
  | .status => .next (s.setStatus (s.status.write v))
  | .ctrl => .next (writeCtrl v s)
  | .cap => .next s
  | .prev => .next (s.setPrev v)
  | .addrLo => .next (s.setAddrLo v)
  | .addrHi => .next (writeAddrHi v s)
  | .len => .next (s.setLen v)
  | .result => .next s
  | .reserved => .next s

/-! ## Byte stores to the input buffer (R39, R49, R51) -/

/-- Whether the byte at `a` belongs to the buffer of a data command in flight (R44, R51). -/
def inFlightBuffer (s : State) (a : Nat) : Bool :=
  s.op.active && s.op.opc.isData
    && decide (s.op.addr.toNat ≤ a ∧ a < s.op.addr.toNat + s.op.len.toNat)

/-- A byte store over a byte that held `old`: the byte changes, and where it belongs to the buffer
in flight the old value stays possible for its read (R51). -/
def storeByte (a : Nat) (b old : Byte) (s : State) : State :=
  if inFlightBuffer s a then (s.setMem (Memory.write s.mem a b)).setRaced ((a, old) :: s.raced)
  else s.setMem (Memory.write s.mem a b)

/-! ## One host access -/

/-- What one access or event does (R12, R59, R60, R115).  Host stores outside the launch memory and
accesses outside the window are no accesses to the block (log 11, log 12). -/
def hostOp (o : HostOp) (s : State) : Host.Outcome State Fault Refusal :=
  match o with
  | .wr a w v =>
    match targetOf s.params a w with
    | .reg r => writeReg r v s
    | .bad => .fault .badRegisterAccess
    | .outside => .fault .outsideWindow
  | .rd a w =>
    match targetOf s.params a w with
    | .reg r => .next (s.setReads (readReg r s :: s.reads))
    | .bad => .fault .badRegisterAccess
    | .outside => .fault .outsideWindow
  | .wait => .next s
  | .store a b =>
    if meetsWindow s.params a 1 then .fault .badRegisterAccess
    else
      match Memory.read s.mem a with
      | some old => .next (storeByte a b old s)
      | none => .fault .storeUnmapped
  | .reset => .next (resetBlock s)

/-- The host's next access is performed and taken off the list. -/
def hostStep (s : State) : Host.Outcome State Fault Refusal :=
  match s.host with
  | [] => .next s
  | o :: rest => hostOp o (s.setHost rest)

/-- The host has a move: it has an access left, and is not waiting for BUSY = 0 (R60, log 15). -/
def hostReady (s : State) : Bool :=
  match s.host with
  | [] => false
  | .wait :: _ => !s.status.busy
  | _ :: _ => true

/-! ## The host statements of R59 and R60, as lists of accesses -/

/-- `wr REG, v` (R59). -/
def wrReg (p : Params) (r : Reg) (v : Word) : HostOp := .wr (p.regBase + r.offset) .word v

/-- `rd REG` (R59). -/
def rdReg (p : Params) (r : Reg) : HostOp := .rd (p.regBase + r.offset) .word

/-- `cmd m` (R60). -/
def cmdStmt (p : Params) (i : Instr) : HostOp := wrReg p .cmd (encode i)

/-- `setbuf a, n`: the write of ADDR_HI is left out when ADDR_WIDTH = 32 (R60). -/
def setbufStmt (p : Params) (a : BitVec 64) (n : Word) : List HostOp :=
  match p.addrWidth with
  | .w32 => [wrReg p .addrLo (a.setWidth 32), wrReg p .len n]
  | .w64 => [wrReg p .addrLo (a.setWidth 32), wrReg p .addrHi (a.extractLsb' 32 32), wrReg p .len n]

/-- `call.crc32 p, a, n` (R60). -/
def callCrc32Stmt (p : Params) (prev : Word) (a : BitVec 64) (n : Word) : List HostOp :=
  wrReg p .prev prev :: setbufStmt p a n ++ [cmdStmt p .crc32, .wait, rdReg p .result]

/-- `call.crc32c p, a, n` (R60). -/
def callCrc32cStmt (p : Params) (prev : Word) (a : BitVec 64) (n : Word) : List HostOp :=
  wrReg p .prev prev :: setbufStmt p a n ++ [cmdStmt p .crc32c, .wait, rdReg p .result]

/-- `acc.update k, a, n` (R60). -/
def accUpdateStmt (p : Params) (k : Nat) (a : BitVec 64) (n : Word) : List HostOp :=
  setbufStmt p a n ++ [cmdStmt p (.update k), .wait]

/-- `acc.checksum k` (R60). -/
def accChecksumStmt (p : Params) (k : Nat) : List HostOp :=
  [cmdStmt p (.checksum k), .wait, rdReg p .result]

end Sys2Proof.Machine
end

