-- ==== Sys2Proof/Machine/Schedule.lean ====
section
/-! DEFINITION. Which agent moves next (R12, R65, R106). -/

namespace Sys2Proof.Machine

/-- The script of host moves, with a free value drawn where it has run out (R12, R106; log 4). -/
def fillSched (s : State) : State :=
  match s.sched with
  | [] => (s.setSched [Config.hostBurst s.draws]).setDraws (s.draws + 1)
  | _ :: _ => s

/-- Host and block can both move: the script says how many host moves come before the next block
step.  It is finite, so block steps are weakly fair (R65). -/
def contend (s : State) : Host.Outcome State Fault Refusal :=
  match s.sched with
  | [] => .next (blockStep s)
  | 0 :: rest => .next (blockStep (s.setSched rest))
  | (n + 1) :: rest => hostStep (s.setSched (n :: rest))

/-- One step of the machine: a host step or a block step, each atomic (R12).  Where only one agent
can move it moves; where none can, the block is idle and keeps its state (R113, R128). -/
def advance (s : State) : Host.Outcome State Fault Refusal :=
  if s.op.active then
    if hostReady s then contend (fillSched s) else .next (blockStep (s.setSched s.sched.tail))
  else if hostReady s then hostStep s
  else .next s

/-- The state whose next step is a host write of the word `w` to CMD: the write stands first in the
host's list, and where a command is in flight the script gives the host the next move. -/
def withCmdWrite (s : State) (w : Word) : State :=
  { s with
    host := wrReg s.params .cmd w :: s.host
    sched := if s.op.active then 1 :: s.sched else s.sched }

end Sys2Proof.Machine
end

