-- ==== Sys2Proof/Machine/Step.lean ====
section
/-! DEFINITION. One step of the machine, and how a command word is placed for the next step. -/

namespace Sys2Proof.Machine

/-- One step (R12): see `advance`. -/
def step (s : State) : Host.Outcome State Fault Refusal := Sys2Proof.Machine.advance s

/-- `s` with the command whose bits are `w` standing where the next step takes its word from: as the
host's next write to CMD (R33).  The bits above `nbits` are 0. -/
def State.withFetchWord (s : State) (nbits w : Nat) : State :=
  Sys2Proof.Machine.withCmdWrite s (BitVec.ofNat 32 (w % 2 ^ nbits))

end Sys2Proof.Machine
end

