-- ==== Sys2Proof/Safety.lean ====
section
/-! DEFINITION. What statements are stated in: the invariant of the machine, the checks of R61 as the spec writes them, and the hazards (R121 to R126). -/

namespace Sys2Proof.Machine

/-- Opcodes that name a context (R55). -/
def Opcode.usesCtx (o : Opcode) : Bool :=
  match o with
  | .crc32 => false
  | .crc32c => false
  | .newCrc32 => true
  | .newCrc32c => true
  | .update => true
  | .checksum => true
  | .drop => true

/-- Opcodes that need a constructed context (R61): the others that name one need a free one. -/
def Opcode.needsLive (o : Opcode) : Bool :=
  match o with
  | .update => true
  | .checksum => true
  | .drop => true
  | .crc32 => false
  | .crc32c => false
  | .newCrc32 => false
  | .newCrc32c => false

/-- What holds of the machine between any two steps, on every part. -/
structure State.Inv (s : State) : Prop where
  /-- the file has N_CTX contexts (R24) -/
  ctxCount : s.ctxs.length = s.params.nCtx
  /-- `OP.active` always equals STATUS.BUSY (R25) -/
  activeIsBusy : s.op.active = s.status.busy
  /-- BUSY = 1 and DONE = 1 never hold at the same time (R22) -/
  busyNotDone : s.status.busy = true → s.status.done = false
  /-- issue cleared ERRCODE, and only the end of the command sets it again (R62, R64) -/
  busyNoError : s.status.busy = true → s.status.errcode = .noError
  /-- the memory keeps its canonical form -/
  memCanonical : Memory.wf s.mem = true
  /-- every byte of the memory is in the ADDR_WIDTH-bit space (R38) -/
  memInSpace : ∀ c ∈ s.mem, c.1 < s.params.addrLimit
  /-- `OP.idx` ranges over 0 to LEN (R86) -/
  idxInBuffer : s.op.active = true → s.op.opc.isData = true → s.op.idx.toNat ≤ s.op.len.toNat
  /-- an admitted length is below 2^31 (R86) -/
  lenAdmitted : s.op.active = true → s.op.opc.isData = true → s.op.len.toNat < 0x80000000
  /-- no byte address wraps past the top of the space (R40) -/
  addrAdmitted : s.op.active = true → s.op.opc.isData = true →
    s.op.addr.toNat + s.op.len.toNat ≤ s.params.addrLimit
  /-- the latched context exists (R61) -/
  ctxIndex : s.op.active = true → Opcode.usesCtx s.op.opc = true → s.op.k.toNat < s.params.nCtx
  /-- a context stays in the state the issue found it in until the completion (R61, R64) -/
  ctxState : s.op.active = true → Opcode.usesCtx s.op.opc = true →
    (ctxAt s s.op.k.toNat).valid = Opcode.needsLive s.op.opc
  /-- an UPDATE never mixes algorithms (R90) -/
  algOfCtx : s.op.active = true → s.op.opc = .update → s.op.alg = (ctxAt s s.op.k.toNat).alg
  /-- `OP.serial` is always 0 when HAS_SERIAL = 0 (R62) -/
  serialBuilt : s.op.active = true → s.op.serial = true → s.params.hasSerial = true

/-- `check(w)` as R61 writes it, on the word's own fields: the independent form that the issue of a
decoded command is compared with. -/
def checkWord (w : Word) (s : State) : ErrCode :=
  let opc := opcField w
  let k := (ctxField w).toNat
  if rsvField w ≠ 0#16 ∨ opc ∉ [0x01#8, 0x02#8, 0x10#8, 0x11#8, 0x20#8, 0x30#8, 0x40#8] then .illegalCmd
  else if opc ∈ [0x01#8, 0x02#8] ∧ k ≠ 0 then .illegalCmd
  else if opc ∈ [0x10#8, 0x11#8, 0x20#8, 0x30#8, 0x40#8] ∧ s.params.nCtx ≤ k then .badCtx
  else if opc ∈ [0x10#8, 0x11#8] ∧ (ctxAt s k).valid = true then .ctxInUse
  else if opc ∈ [0x20#8, 0x30#8, 0x40#8] ∧ (ctxAt s k).valid = false then .ctxInvalid
  else if opc ∈ [0x01#8, 0x02#8, 0x20#8] ∧ 0x80000000 ≤ s.len.toNat then .lenRange
  else if opc ∈ [0x01#8, 0x02#8, 0x20#8] ∧
      s.params.addrLimit < (addrOperand s).toNat + s.len.toNat then .addrRange
  else .noError

/-- The words that R56 lists as illegal. -/
def illegalWord (w : Word) : Prop :=
  rsvField w ≠ 0#16 ∨
  opcField w ∉ [0x01#8, 0x02#8, 0x10#8, 0x11#8, 0x20#8, 0x30#8, 0x40#8] ∨
  (opcField w ∈ [0x01#8, 0x02#8] ∧ ctxField w ≠ 0#8)

/-- The block is idle and `ADDR`, `LEN` name a buffer that a data command accepts, all of whose
bytes `d` the launch memory admits and which is ordinary memory (R44.1, R61). -/
structure BufferReady (s : State) (d : List Byte) : Prop where
  notBusy : s.status.busy = false
  lenOk   : s.len.toNat < 0x80000000
  addrOk  : (addrOperand s).toNat + s.len.toNat ≤ s.params.addrLimit
  ordinary : bufferHasSideEffects s = false
  bytes   : Memory.bytes? s.mem (addrOperand s).toNat s.len.toNat = some d

/-- The parameters and the operand registers are unchanged. -/
structure OperandsKept (s t : State) : Prop where
  params      : t.params = s.params
  forceSerial : t.forceSerial = s.forceSerial
  prev        : t.prev = s.prev
  addrLo      : t.addrLo = s.addrLo
  addrHi      : t.addrHi = s.addrHi
  len         : t.len = s.len

/-- Everything outside the block is unchanged, every byte of the memory included. -/
structure OutsideKept (s t : State) : Prop where
  bytes       : ∀ a, Memory.read t.mem a = Memory.read s.mem a
  sideEffects : t.sideEffects = s.sideEffects
  host        : t.host = s.host
  reads       : t.reads = s.reads
  sched       : t.sched = s.sched

/-- `t` is `s` after a command that ended in success: STATUS is as R64 leaves it, the latch is
inactive, and everything but RESULT and the contexts is as before. -/
structure EndedWell (s t : State) : Prop where
  status   : t.status = { s.status with busy := false, done := true, errcode := .noError }
  inactive : t.op.active = false
  operands : OperandsKept s t
  outside  : OutsideKept s t

/-- A context `j` other than `k` is as before, for every such `j`. -/
def OtherContextsKept (k : Nat) (s t : State) : Prop :=
  t.ctxs.length = s.ctxs.length ∧ ∀ j, j ≠ k → ctxAt t j = ctxAt s j

/-- `issue(w)` as R62 writes it, on the word's own fields and with the checks of R61: the
independent form that a host write to CMD is compared with. -/
def issueSpec (w : Word) (s : State) : State :=
  if s.status.busy then { s with status := { s.status with overrun := true } }
  else if checkWord w s ≠ .noError then
    { s with status := { s.status with errcode := checkWord w s, done := true } }
  else
    let opc := opcField w
    let c := ctxAt s (ctxField w).toNat
    let isData : Bool := opc = 0x01#8 || opc = 0x02#8 || opc = 0x20#8
    { s with
      status := { s.status with busy := true, done := false, errcode := .noError }
      op :=
        { active := true
          opc := (opcodeOfBits opc).getD .crc32
          k := ctxField w
          alg :=
            if opc = 0x01#8 then .crc32
            else if opc = 0x02#8 then .crc32c
            else if opc = 0x20#8 then c.alg
            else Alg.ofBit (Config.freeBit s.draws)
          addr := addrOperand s
          len := s.len
          serial := forceSerialBit s
          idx := 0#32
          S :=
            if opc = 0x01#8 then ~~~ s.prev
            else if opc = 0x02#8 then ~~~ s.prev
            else if opc = 0x20#8 then ~~~ c.acc
            else Config.freeWord s.draws }
      raced := []
      draws := if isData then s.draws else s.draws + 1 }

/-! ## Whole commands, with no host step between issue and completion -/

/-- A command issued and run for the `OP.len + 1` block steps within which it ends (R65). -/
def runCommand (i : Instr) (s : State) : Host.Outcome State Fault Refusal :=
  match exec i s with
  | .next t => .next (blockRun (t.op.len.toNat + 1) t)
  | .fault r => .fault r
  | .refused r => .refused r

/-- The host's writes of ADDR and LEN (`setbuf`, R60). -/
def setBuffer (a : BitVec 64) (n : Word) (s : State) : State :=
  (writeAddrHi (a.extractLsb' 32 32) (s.setAddrLo (a.setWidth 32))).setLen n

/-- `setbuf` and UPDATE k for each chunk in turn (R93). -/
def updateChunks (k : Nat) : List (BitVec 64 × Word) → State → Host.Outcome State Fault Refusal
  | [], s => .next s
  | (a, n) :: cs, s =>
    match runCommand (.update k) (setBuffer a n s) with
    | .next t => updateChunks k cs t
    | .fault r => .fault r
    | .refused r => .refused r

/-- The primitive command of an algorithm (R80, R81). -/
def primitiveOf : Alg → Instr
  | .crc32 => .crc32
  | .crc32c => .crc32c

/-- The command that constructs an accumulator of an algorithm (R88, R89). -/
def newOf : Alg → Nat → Instr
  | .crc32, k => .newCrc32 k
  | .crc32c, k => .newCrc32c k

/-- The primitive chain of R94: `setbuf`, PREV written with the value so far, and the primitive
command, for each chunk in turn; the value so far is then RESULT. -/
def primitiveChunks (a : Alg) : List (BitVec 64 × Word) → Word → State → Host.Outcome State Fault Refusal
  | [], p, s => .next (s.setPrev p)
  | (b, n) :: cs, p, s =>
    match runCommand (primitiveOf a) ((setBuffer b n s).setPrev p) with
    | .next t => primitiveChunks a cs t.result t
    | .fault r => .fault r
    | .refused r => .refused r

/-- Every chunk is a buffer that a data command accepts on the machine `s`, with its bytes. -/
def ChunksReady (s : State) : List (BitVec 64 × Word) → List (List Byte) → Prop
  | [], [] => True
  | [], _ :: _ => False
  | _ :: _, [] => False
  | (a, n) :: cs, d :: ds => BufferReady (setBuffer a n s) d ∧ ChunksReady s cs ds

/-- Hazard 1 is respected: the host's next access is not a CMD write while BUSY (R121). -/
def noOverrunHazard (s : State) : Prop :=
  s.status.busy = true → ∀ a w v rest, s.host = .wr a w v :: rest → targetOf s.params a w ≠ .reg .cmd

/-- Hazard 3 is respected: the host's next access does not store into the buffer in flight (R123). -/
def noBufferHazard (s : State) : Prop :=
  ∀ a b rest, s.host = .store a b :: rest → inFlightBuffer s a = false

/-- A run of a host program has ended (R128). -/
def runEnded (s : State) : Prop := s.host = [] ∧ s.status.busy = false

end Sys2Proof.Machine
end

