-- ==== Sys2Proof/Certificates/Slice0/Obligations.lean ====
section
/-! DEFINITION. The statements for the provers, from the numbered rules of spec/. -/

open Sys2Proof Sys2Proof.Machine

/-! ## Encoding -/

/-- R53, R55, R58: no operand of a well-formed command is lost in its word. -/
def Obligations.DecodeOfEncodeIsTheCommand : Prop :=
  ∀ i : Instr, i.wellFormed = true → decode (encode i) = .command i

/-- R55, R57: a command has one word only, and an assembler admits every command that decodes. -/
def Obligations.EncodeOfDecodeIsTheWord : Prop :=
  ∀ (w : Word) (i : Instr), decode w = .command i → encode i = w ∧ i.wellFormed = true

/-- R66: every word is exactly one row of the table, or illegal and reported as ILLEGAL_CMD. -/
def Obligations.EveryWordIsOneRowOrIllegal : Prop :=
  ∀ w : Word,
    ((∃ r ∈ opcodeRows, r.hits w = true ∧ (∀ q ∈ opcodeRows, q.hits w = true → q = r) ∧
        ∃ i, decode w = .command i ∧ i.opcode = r.opcode) ∧ ¬ illegalWord w) ∨
    ((∀ r ∈ opcodeRows, r.hits w = false) ∧ illegalWord w ∧ (∃ e, decode w = .illegal e) ∧
        ∀ s : State, s.status.busy = false →
          ∃ t, writeCmd w s = .next t ∧ t.status.errcode = .illegalCmd)

/-- R58 and the examples of R88, R89, R92: words written out from the spec decode to their commands. -/
def Obligations.SampleWordsDecode : Prop :=
  decode 0b00000000000000000000000000000001#32 = .command .crc32 ∧
  decode 0b00000000000000000000000000000010#32 = .command .crc32c ∧
  decode 0b00000000000000000000001100010000#32 = .command (.newCrc32 3) ∧
  decode 0b00000000000000000000000000010001#32 = .command (.newCrc32c 0) ∧
  decode 0b00000000000000001111111100100000#32 = .command (.update 255) ∧
  decode 0b00000000000000000000001000110000#32 = .command (.checksum 2) ∧
  decode 0b00000000000000000000001101000000#32 = .command (.drop 3)

/-- R56: the illegal words are exactly those that match no row; issuing one ends at issue with
ILLEGAL_CMD and no other effect; a context word with CTX at least N_CTX is legal, and refused with
BAD_CTX. -/
def Obligations.IllegalWordsEndAtIssue : Prop :=
  (∀ w : Word, illegalWord w ↔ ∀ r ∈ opcodeRows, r.hits w = false) ∧
  (∀ (w : Word) (s : State), illegalWord w → s.status.busy = false → s.op.active = false →
    writeCmd w s = .next { s with status := { s.status with done := true, errcode := .illegalCmd } }) ∧
  (∀ (w : Word) (s : State), rsvField w = 0#16 →
    opcField w ∈ [0x10#8, 0x11#8, 0x20#8, 0x30#8, 0x40#8] →
    s.params.nCtx ≤ (ctxField w).toNat → s.status.busy = false → s.op.active = false →
    ¬ illegalWord w ∧
      writeCmd w s = .next { s with status := { s.status with done := true, errcode := .badCtx } })

/-! ## Issue -/

/-- R61, R62: a host write of any word to CMD does what the pseudocode of issue and check says, for
every word and every state in which OP.active equals BUSY (R25), where the buffer is ordinary memory
(R44.1; the other case is `CommandsStopOnlyOnSideEffects`).  OP.alg and OP.S of a context command,
which R62 leaves unspecified, are the free values of log 8, whatever they are; that issue empties the
list of raced bytes is log 9.  Both are the model's, not the spec's. -/
def Obligations.IssueRefinesPseudocode : Prop :=
  ∀ (w : Word) (s : State), s.op.active = s.status.busy → bufferHasSideEffects s = false →
    writeCmd w s = .next (issueSpec w s)

/-- R102: a CMD write while BUSY sets OVERRUN and does nothing else, whatever the word; and OVERRUN
stays 1 until the host writes STATUS with bit 2 = 1, or until reset. -/
def Obligations.OverrunDropsTheWord : Prop :=
  (∀ (w : Word) (s : State), s.status.busy = true →
    writeCmd w s = .next { s with status := { s.status with overrun := true } }) ∧
  (∀ s t : State, step s = .next t → s.status.overrun = true → t.status.overrun = false →
    (∃ rest, s.host = .reset :: rest) ∨
    (∃ v rest, v.getLsbD 2 = true ∧ s.host = wrReg s.params .status v :: rest))

/-- R100: an error at issue changes ERRCODE and DONE only; BUS_ERROR changes these, BUSY and
OP.active only. -/
def Obligations.ErrorsArePrecise : Prop :=
  (∀ (w : Word) (s : State), s.status.busy = false → s.op.active = false →
    checkWord w s ≠ .noError →
    writeCmd w s = .next { s with status := { s.status with errcode := checkWord w s, done := true } }) ∧
  (∀ s : State, s.op.active = true → s.op.opc.isData = true → s.op.idx.toNat < s.op.len.toNat →
    Memory.read s.mem (s.op.addr.toNat + s.op.idx.toNat) = none →
    blockStep s = { s with
      status := { s.status with errcode := .busError, done := true, busy := false }
      op := { s.op with active := false } })

/-- R44: a command stops the machine in one case only, a data command that would start on a buffer
with read side effects; no command ever faults.  R44 says that such a launch is refused; that the
refusal falls at issue, exactly when the block is not BUSY and all checks of R61 passed, is the
model's reading (log 10, DEDUCED). -/
def Obligations.CommandsStopOnlyOnSideEffects : Prop :=
  ∀ (i : Instr) (s : State), i.wellFormed = true →
    ((∃ r, exec i s = .refused r) ↔
      (i.opcode.isData = true ∧ s.status.busy = false ∧ checkWord (encode i) s = .noError ∧
        bufferHasSideEffects s = true)) ∧
    (∀ r, exec i s = .refused r → r = .readSideEffects) ∧
    (∀ f, exec i s ≠ .fault f)

/-- The frame of issue, for every command: whatever the outcome of its checks, issue leaves RESULT,
every context, the operand registers, the parameters, every byte of memory and the host's side as
they were, and OVERRUN too unless the block was BUSY (R62, R95, R43). -/
def Obligations.IssueFrame : Prop :=
  ∀ (i : Instr) (s t : State), exec i s = .next t →
    t.result = s.result ∧ t.ctxs = s.ctxs ∧ OperandsKept s t ∧ OutsideKept s t ∧
    (s.status.busy = false → t.status.overrun = s.status.overrun)

/-! ## Block steps -/

/-- R63: a block step of a data command with bytes left reads the byte at OP.addr + OP.idx and
either steps the engine and the index, with `byte_step` of R79 whatever engine is selected, or
raises BUS_ERROR; any other block step completes. -/
def Obligations.BlockStepFollowsPseudocode : Prop :=
  ∀ s : State, s.op.active = true →
    (s.op.opc.isData = true → s.op.idx.toNat < s.op.len.toNat →
      (∀ b, memRead s (s.op.addr.toNat + s.op.idx.toNat) = some b →
        (blockStep s).op = { s.op with S := byteStep s.op.alg s.op.S b, idx := s.op.idx + 1#32 } ∧
        (blockStep s).status = s.status ∧ (blockStep s).result = s.result ∧
        (blockStep s).ctxs = s.ctxs) ∧
      (memRead s (s.op.addr.toNat + s.op.idx.toNat) = none → blockStep s = raiseError .busError s)) ∧
    (¬ (s.op.opc.isData = true ∧ s.op.idx.toNat < s.op.len.toNat) → blockStep s = complete s)

/-- The frame of a block step (R43, R21, R95, R35): the operand registers, the parameters, every byte
of memory, the host's side and OVERRUN are as before; no context but OP.k's is touched. -/
def Obligations.BlockStepFrame : Prop :=
  ∀ s : State,
    OperandsKept s (blockStep s) ∧ OutsideKept s (blockStep s) ∧
    (blockStep s).status.overrun = s.status.overrun ∧
    OtherContextsKept s.op.k.toNat s (blockStep s)

/-- R65: a command in flight ends after at most OP.len + 1 block steps, from any state. -/
def Obligations.CommandEndsWithinLenPlusOne : Prop :=
  ∀ s : State, s.op.active = true →
    ∃ n, n ≤ s.op.len.toNat + 1 ∧ (blockRun n s).op.active = false

/-- R60, R65: a `wait` on a BUSY block ends, within OP.len + 2 steps of the machine.  The count of
machine steps is the model's: polls that see BUSY = 1 are no steps (log 15, DESIGN CHOICE), and the
host's accesses stand in a list (log 1, DESIGN CHOICE). -/
def Obligations.WaitEnds : Prop :=
  ∀ (s : State) (rest : List HostOp), s.op.active = true → s.status.busy = true →
    s.host = .wait :: rest →
    ∃ n, n ≤ s.op.len.toNat + 2 ∧
      ∃ t : State, Host.Core.run Sys2Proof.core n s = .next t ∧ t.status.busy = false ∧
        t.op.active = false ∧ t.host = rest

/-- R51: a read of a byte that nobody wrote since issue gives the byte as it stands; a raced read
gives a value that the byte holds or held since issue, whichever the free choice is (log 9); and a
store into the buffer in flight keeps the old value among them. -/
def Obligations.RacedReadIsAHeldValue : Prop :=
  (∀ (s : State) (a : Nat), olderValues s.raced a = [] → memRead s a = Memory.read s.mem a) ∧
  (∀ (s : State) (a : Nat) (b : Byte), memRead s a = some b →
    Memory.read s.mem a = some b ∨
      (b ∈ olderValues s.raced a ∧ ∃ c, Memory.read s.mem a = some c)) ∧
  (∀ (s : State) (a : Nat) (b old : Byte), inFlightBuffer s a = true →
    Memory.read (storeByte a b old s).mem a = some b ∧
      olderValues (storeByte a b old s).raced a = old :: olderValues s.raced a)

/-! ## The seven commands, from issue to completion -/

/-- R80: CRC32 of the LEN bytes at ADDR, continuing from PREV, in LEN + 1 block steps. -/
def Obligations.Crc32ComputesTheChecksum : Prop :=
  ∀ (s : State) (d : List Byte), BufferReady s d →
    ∃ t, exec .crc32 s = .next t ∧ t.status.busy = true ∧ t.status.done = false ∧
      t.result = s.result ∧
      EndedWell s (blockRun (s.len.toNat + 1) t) ∧
      (blockRun (s.len.toNat + 1) t).result = crc .crc32 d s.prev ∧
      (blockRun (s.len.toNat + 1) t).ctxs = s.ctxs

/-- R81: CRC32C of the LEN bytes at ADDR, continuing from PREV, in LEN + 1 block steps. -/
def Obligations.Crc32cComputesTheChecksum : Prop :=
  ∀ (s : State) (d : List Byte), BufferReady s d →
    ∃ t, exec .crc32c s = .next t ∧ t.status.busy = true ∧ t.status.done = false ∧
      t.result = s.result ∧
      EndedWell s (blockRun (s.len.toNat + 1) t) ∧
      (blockRun (s.len.toNat + 1) t).result = crc .crc32c d s.prev ∧
      (blockRun (s.len.toNat + 1) t).ctxs = s.ctxs

/-- R88: NEW_CRC32 on a free context that exists constructs {valid 1, alg 0, acc 0}. -/
def Obligations.NewCrc32Constructs : Prop :=
  ∀ (s : State) (k : Nat), s.status.busy = false → s.ctxs.length = s.params.nCtx →
    k < s.params.nCtx → (ctxAt s k).valid = false →
    ∃ t, exec (.newCrc32 k) s = .next t ∧ t.status.busy = true ∧ t.ctxs = s.ctxs ∧
      EndedWell s (blockStep t) ∧
      ctxAt (blockStep t) k = { valid := true, alg := .crc32, acc := 0x00000000#32 } ∧
      OtherContextsKept k s (blockStep t) ∧ (blockStep t).result = s.result

/-- R89: NEW_CRC32C on a free context that exists constructs {valid 1, alg 1, acc 0}. -/
def Obligations.NewCrc32cConstructs : Prop :=
  ∀ (s : State) (k : Nat), s.status.busy = false → s.ctxs.length = s.params.nCtx →
    k < s.params.nCtx → (ctxAt s k).valid = false →
    ∃ t, exec (.newCrc32c k) s = .next t ∧ t.status.busy = true ∧ t.ctxs = s.ctxs ∧
      EndedWell s (blockStep t) ∧
      ctxAt (blockStep t) k = { valid := true, alg := .crc32c, acc := 0x00000000#32 } ∧
      OtherContextsKept k s (blockStep t) ∧ (blockStep t).result = s.result

/-- R90: UPDATE folds the LEN bytes at ADDR into accumulator k, with its own algorithm, in LEN + 1
block steps; RESULT and the other contexts are as before. -/
def Obligations.UpdateFoldsTheBuffer : Prop :=
  ∀ (s : State) (d : List Byte) (k : Nat), BufferReady s d → s.ctxs.length = s.params.nCtx →
    k < s.params.nCtx → (ctxAt s k).valid = true →
    ∃ t, exec (.update k) s = .next t ∧ t.status.busy = true ∧ t.ctxs = s.ctxs ∧
      EndedWell s (blockRun (s.len.toNat + 1) t) ∧
      ctxAt (blockRun (s.len.toNat + 1) t) k =
        { valid := true, alg := (ctxAt s k).alg, acc := crc (ctxAt s k).alg d (ctxAt s k).acc } ∧
      OtherContextsKept k s (blockRun (s.len.toNat + 1) t) ∧
      (blockRun (s.len.toNat + 1) t).result = s.result

/-- R91: CHECKSUM reads accumulator k into RESULT and changes no context. -/
def Obligations.ChecksumReadsTheAccumulator : Prop :=
  ∀ (s : State) (k : Nat), s.status.busy = false → k < s.params.nCtx →
    (ctxAt s k).valid = true →
    ∃ t, exec (.checksum k) s = .next t ∧ t.status.busy = true ∧ t.result = s.result ∧
      EndedWell s (blockStep t) ∧ (blockStep t).result = (ctxAt s k).acc ∧
      (blockStep t).ctxs = s.ctxs

/-- R92: DROP ends accumulator k; its alg and acc are then unspecified (log 6), so nothing is said
of them; RESULT and the other contexts are as before; a second DROP, an UPDATE and a CHECKSUM of k
then end with CTX_INVALID. -/
def Obligations.DropEndsTheAccumulator : Prop :=
  ∀ (s : State) (k : Nat), s.status.busy = false → s.ctxs.length = s.params.nCtx →
    k < s.params.nCtx → (ctxAt s k).valid = true →
    ∃ t, exec (.drop k) s = .next t ∧ t.status.busy = true ∧ t.ctxs = s.ctxs ∧
      EndedWell s (blockStep t) ∧ (ctxAt (blockStep t) k).valid = false ∧
      OtherContextsKept k s (blockStep t) ∧ (blockStep t).result = s.result ∧
      ∀ i, i = .drop k ∨ i = .update k ∨ i = .checksum k →
        ∃ u, exec i (blockStep t) = .next u ∧ u.status.errcode = .ctxInvalid ∧
          u.status.busy = false ∧ u.result = s.result

/-- R101: a data command whose byte `d.length` is refused, all bytes before it admitted, ends at that
byte with BUS_ERROR; no context and no register but STATUS changes, and no later step does anything. -/
def Obligations.BusErrorEndsUncommitted : Prop :=
  ∀ (s : State) (d : List Byte) (i : Instr), s.status.busy = false →
    s.len.toNat < 0x80000000 → (addrOperand s).toNat + s.len.toNat ≤ s.params.addrLimit →
    bufferHasSideEffects s = false →
    Memory.bytes? s.mem (addrOperand s).toNat d.length = some d → d.length < s.len.toNat →
    Memory.read s.mem ((addrOperand s).toNat + d.length) = none →
    (i = .crc32 ∨ i = .crc32c ∨
      ∃ k, i = .update k ∧ k < s.params.nCtx ∧ (ctxAt s k).valid = true) →
    ∃ t, exec i s = .next t ∧
      (blockRun (d.length + 1) t).status =
        { s.status with busy := false, done := true, errcode := .busError } ∧
      (blockRun (d.length + 1) t).op.active = false ∧
      (blockRun (d.length + 1) t).result = s.result ∧
      (blockRun (d.length + 1) t).ctxs = s.ctxs ∧
      OperandsKept s (blockRun (d.length + 1) t) ∧ OutsideKept s (blockRun (d.length + 1) t) ∧
      ∀ n, blockRun (d.length + 1 + n) t = blockRun (d.length + 1) t

/-! ## The accumulator as a whole -/

/-- R93, R94: on a context constructed by NEW, after UPDATE over any list of chunks, acc is the CRC of
their concatenation from 0, and it is the value that the chain of primitive commands gives. -/
def Obligations.AccumulatorContinues : Prop :=
  ∀ (s : State) (a : Alg) (k : Nat) (cs : List (BitVec 64 × Word)) (ds : List (List Byte)),
    s.status.busy = false → s.ctxs.length = s.params.nCtx → k < s.params.nCtx →
    (ctxAt s k).valid = false → ChunksReady s cs ds →
    ∃ t u v, runCommand (newOf a k) s = .next t ∧ updateChunks k cs t = .next u ∧
      ctxAt u k = { valid := true, alg := a, acc := crc a ds.flatten 0#32 } ∧
      primitiveChunks a cs 0#32 s = .next v ∧ v.prev = (ctxAt u k).acc

/-- R95: no command on another context, and no primitive command, reads or writes context `j`: its
issue and its block steps do the same whatever context `j` holds, and leave it as it is. -/
def Obligations.ContextsAreIndependent : Prop :=
  (∀ (i : Instr) (s t : State) (j : Nat) (c : Context),
    (i = .crc32 ∨ i = .crc32c ∨ i.ctx ≠ j) → exec i s = .next t →
    exec i (s.setCtx j c) = .next (t.setCtx j c)) ∧
  (∀ (s : State) (j : Nat) (c : Context),
    (Opcode.usesCtx s.op.opc = false ∨ s.op.k.toNat ≠ j) →
    ∀ n, blockRun n (s.setCtx j c) = (blockRun n s).setCtx j c)

/-- R96, R88 to R92: a context changes only in the completion of a NEW, UPDATE or DROP on it, or by
reset; and an UPDATE changes only its acc. -/
def Obligations.ContextsChangeOnlyByTheirCommands : Prop :=
  ∀ (s t : State) (j : Nat), step s = .next t → ctxAt t j ≠ ctxAt s j →
    (∃ rest, s.host = .reset :: rest) ∨
    (s.op.active = true ∧ t.op.active = false ∧ t.status.errcode = .noError ∧ s.op.k.toNat = j ∧
      (s.op.opc = .newCrc32 ∨ s.op.opc = .newCrc32c ∨ s.op.opc = .drop ∨
        (s.op.opc = .update ∧ (ctxAt t j).valid = (ctxAt s j).valid ∧ (ctxAt t j).alg = (ctxAt s j).alg)))

/-- R21: only the completion of a successful CRC32, CRC32C or CHECKSUM writes RESULT, reset apart. -/
def Obligations.ResultChangesOnlyByCompletion : Prop :=
  ∀ s t : State, step s = .next t → t.result ≠ s.result →
    (∃ rest, s.host = .reset :: rest) ∨
    (s.op.active = true ∧ t.op.active = false ∧ t.status.errcode = .noError ∧
      t.status.busy = false ∧ t.status.done = true ∧
      (s.op.opc = .crc32 ∨ s.op.opc = .crc32c ∨ s.op.opc = .checksum))

/-- R43: no step of the block and no register access writes memory; a byte changes only where the
host's next event is a store to it. -/
def Obligations.BlockWritesNoMemory : Prop :=
  (∀ (n : Nat) (s : State), (blockRun n s).mem = s.mem) ∧
  (∀ (s t : State) (a : Nat), step s = .next t → Memory.read t.mem a ≠ Memory.read s.mem a →
    ∃ b rest, s.host = .store a b :: rest ∧ Memory.read t.mem a = some b)

/-! ## Registers -/

/-- R29: a host write sets PREV, ADDR_LO or LEN, and ADDR_HI where ADDR_WIDTH = 64; it is accepted in
every state, BUSY or not, and does not affect the command in flight. -/
def Obligations.OperandWritesDoNotReachTheCommand : Prop :=
  (∀ (s : State) (v : Word),
    writeReg .prev v s = .next { s with prev := v } ∧
    writeReg .addrLo v s = .next { s with addrLo := v } ∧
    writeReg .len v s = .next { s with len := v } ∧
    (s.params.addrWidth = .w64 → writeReg .addrHi v s = .next { s with addrHi := v }) ∧
    (s.params.addrWidth = .w32 → writeReg .addrHi v s = .next s)) ∧
  (∀ (n : Nat) (s : State) (v : Word),
    blockRun n { s with prev := v } = { blockRun n s with prev := v } ∧
    blockRun n { s with addrLo := v } = { blockRun n s with addrLo := v } ∧
    blockRun n { s with addrHi := v } = { blockRun n s with addrHi := v } ∧
    blockRun n { s with len := v } = { blockRun n s with len := v })

/-- R30: a host write of v to CTRL sets FORCE_SERIAL to v[0] where HAS_SERIAL = 1 and is ignored
otherwise; a write while BUSY is accepted and reaches the next issue only. -/
def Obligations.CtrlWriteTakesEffectAtTheNextIssue : Prop :=
  (∀ (s : State) (v : Word), s.params.hasSerial = true →
    writeReg .ctrl v s = .next { s with forceSerial := v.getLsbD 0 }) ∧
  (∀ (s : State) (v : Word), s.params.hasSerial = false → writeReg .ctrl v s = .next s) ∧
  (∀ (n : Nat) (s : State) (b : Bool),
    blockRun n { s with forceSerial := b } = { blockRun n s with forceSerial := b }) ∧
  (∀ (i : Instr) (s t : State), exec i s = .next t → s.status.busy = false →
    t.status.busy = true → t.op.serial = (s.params.hasSerial && s.forceSerial))

/-- R31: a host write to STATUS clears DONE where v[1] = 1 and OVERRUN where v[2] = 1, and has no
other effect; where BUSY = 1 and DONE = 0, v[1] = 1 changes nothing. -/
def Obligations.StatusWriteClearsDoneAndOverrun : Prop :=
  ∀ (s : State) (v : Word),
    writeReg .status v s = .next { s with status := { s.status with
      done := s.status.done && !v.getLsbD 1
      overrun := s.status.overrun && !v.getLsbD 2 } } ∧
    (v.getLsbD 2 = false → s.status.busy = true → s.status.done = false → writeReg .status v s = .next s)

/-- R22, R32, R98: the fields of the word a host read of STATUS returns, and the code of each error. -/
def Obligations.StatusWordHasItsFields : Prop :=
  (ErrCode.bits .noError = 0#4 ∧ ErrCode.bits .illegalCmd = 1#4 ∧ ErrCode.bits .badCtx = 2#4 ∧
    ErrCode.bits .ctxInvalid = 3#4 ∧ ErrCode.bits .ctxInUse = 4#4 ∧ ErrCode.bits .lenRange = 5#4 ∧
    ErrCode.bits .addrRange = 6#4 ∧ ErrCode.bits .busError = 7#4) ∧
  ∀ s : State,
    (readReg .status s).getLsbD 0 = s.status.busy ∧
    (readReg .status s).getLsbD 1 = s.status.done ∧
    (readReg .status s).getLsbD 2 = s.status.overrun ∧
    ((readReg .status s).getLsbD 3 = true ↔ (readReg .status s).extractLsb' 8 4 ≠ 0#4) ∧
    (readReg .status s).extractLsb' 4 4 = 0#4 ∧
    (readReg .status s).extractLsb' 8 4 = s.status.errcode.bits ∧
    (readReg .status s).extractLsb' 12 20 = 0#20 ∧
    ((readReg .status s).extractLsb' 8 4).toNat ≤ 7

/-- R17: the fields of CAP, on every part; writes to it are ignored. -/
def Obligations.CapReportsTheParameters : Prop :=
  ∀ (s : State) (v : Word),
    ((readReg .cap s).extractLsb' 0 9).toNat = s.params.nCtx ∧
    1 ≤ s.params.nCtx ∧ s.params.nCtx ≤ 256 ∧
    (readReg .cap s).extractLsb' 9 7 = 0#7 ∧
    (readReg .cap s).getLsbD 16 = s.params.hasSerial ∧
    (readReg .cap s).extractLsb' 17 7 = 0#7 ∧
    (readReg .cap s).getLsbD 24 = decide (s.params.addrWidth = .w64) ∧
    (readReg .cap s).extractLsb' 25 7 = 0#7 ∧
    writeReg .cap v s = .next s

/-- R27, R28: a reserved offset reads 0 and ignores writes; RESULT ignores writes; reserved fields
read 0 after any write; a read changes nothing but what the host has seen. -/
def Obligations.ReservedSpaceReadsZero : Prop :=
  (∀ (s : State) (off : Nat) (v : Word), 0x24 ≤ off → off ≤ 0xFC → off % 4 = 0 →
    hostOp (.rd (s.params.regBase + off) .word) s = .next { s with reads := 0#32 :: s.reads } ∧
    hostOp (.wr (s.params.regBase + off) .word v) s = .next s) ∧
  (∀ (s : State) (v : Word), writeReg .result v s = .next s ∧ writeReg .cap v s = .next s) ∧
  (∀ s : State, (readReg .ctrl s).extractLsb' 1 31 = 0#31 ∧ (readReg .status s).extractLsb' 4 4 = 0#4 ∧
    (readReg .status s).extractLsb' 12 20 = 0#20) ∧
  (∀ (s : State) (r : Reg),
    hostOp (rdReg s.params r) s = .next { s with reads := readReg r s :: s.reads })

/-- R45, R15: an access to the window that is not 32 bits wide and aligned is a fault of the host
program, a byte store into the window too; every aligned 32-bit access, write or read, reaches one
register, and the nine offsets of R15 reach the registers R15 names.  That alignment is taken of the
offset from REG_BASE (log 11, DESIGN CHOICE) and that a byte store into the window is an access to
it (log 12, DESIGN CHOICE) are the model's choices. -/
def Obligations.OnlyAlignedWordAccessesReachRegisters : Prop :=
  (∀ (s : State) (a : Nat) (w : AccessWidth) (v : Word), meetsWindow s.params a w.bytes = true →
    ¬ (w = .word ∧ ∃ i, i < 64 ∧ a = s.params.regBase + 4 * i) →
    hostOp (.wr a w v) s = .fault .badRegisterAccess ∧
    hostOp (.rd a w) s = .fault .badRegisterAccess) ∧
  (∀ (s : State) (a : Nat) (b : Byte), s.params.regBase ≤ a → a < s.params.regBase + 0x100 →
    hostOp (.store a b) s = .fault .badRegisterAccess) ∧
  (∀ (s : State) (i : Nat) (v : Word), i < 64 →
    hostOp (.wr (s.params.regBase + 4 * i) .word v) s = writeReg (regAt (4 * i)) v s ∧
    hostOp (.rd (s.params.regBase + 4 * i) .word) s =
      .next { s with reads := readReg (regAt (4 * i)) s :: s.reads }) ∧
  (∀ (s : State) (v : Word),
    hostOp (.wr (s.params.regBase + 0x00) .word v) s = writeReg .cmd v s ∧
    hostOp (.wr (s.params.regBase + 0x04) .word v) s = writeReg .status v s ∧
    hostOp (.wr (s.params.regBase + 0x08) .word v) s = writeReg .ctrl v s ∧
    hostOp (.wr (s.params.regBase + 0x0C) .word v) s = writeReg .cap v s ∧
    hostOp (.wr (s.params.regBase + 0x10) .word v) s = writeReg .prev v s ∧
    hostOp (.wr (s.params.regBase + 0x14) .word v) s = writeReg .addrLo v s ∧
    hostOp (.wr (s.params.regBase + 0x18) .word v) s = writeReg .addrHi v s ∧
    hostOp (.wr (s.params.regBase + 0x1C) .word v) s = writeReg .len v s ∧
    hostOp (.wr (s.params.regBase + 0x20) .word v) s = writeReg .result v s) ∧
  (∀ s : State,
    hostOp (.rd (s.params.regBase + 0x00) .word) s = .next { s with reads := readReg .cmd s :: s.reads } ∧
    hostOp (.rd (s.params.regBase + 0x04) .word) s = .next { s with reads := readReg .status s :: s.reads } ∧
    hostOp (.rd (s.params.regBase + 0x08) .word) s = .next { s with reads := readReg .ctrl s :: s.reads } ∧
    hostOp (.rd (s.params.regBase + 0x0C) .word) s = .next { s with reads := readReg .cap s :: s.reads } ∧
    hostOp (.rd (s.params.regBase + 0x10) .word) s = .next { s with reads := readReg .prev s :: s.reads } ∧
    hostOp (.rd (s.params.regBase + 0x14) .word) s = .next { s with reads := readReg .addrLo s :: s.reads } ∧
    hostOp (.rd (s.params.regBase + 0x18) .word) s = .next { s with reads := readReg .addrHi s :: s.reads } ∧
    hostOp (.rd (s.params.regBase + 0x1C) .word) s = .next { s with reads := readReg .len s :: s.reads } ∧
    hostOp (.rd (s.params.regBase + 0x20) .word) s = .next { s with reads := readReg .result s :: s.reads })

/-- R16, R18, R19, R20, R21, R23: what a register reads back after a write of `v` to it. -/
def Obligations.RegistersReadBack : Prop :=
  ∀ (s : State) (v : Word),
    (∃ t, writeReg .prev v s = .next t ∧ readReg .prev t = v) ∧
    (∃ t, writeReg .addrLo v s = .next t ∧ readReg .addrLo t = v) ∧
    (∃ t, writeReg .len v s = .next t ∧ readReg .len t = v) ∧
    (∃ t, writeReg .addrHi v s = .next t ∧
      readReg .addrHi t = (if s.params.addrWidth = .w64 then v else 0#32)) ∧
    (∃ t, writeReg .ctrl v s = .next t ∧
      readReg .ctrl t =
        (if s.params.hasSerial = true then (if v.getLsbD 0 = true then 0x00000001#32 else 0x00000000#32)
         else 0x00000000#32)) ∧
    (∃ t, writeReg .result v s = .next t ∧ readReg .result t = s.result) ∧
    readReg .cmd s = 0#32 ∧
    (s.params.addrWidth = .w32 → (addrOperand s).toNat = s.addrLo.toNat) ∧
    (s.params.addrWidth = .w64 → (addrOperand s).toNat = s.addrHi.toNat * 2 ^ 32 + s.addrLo.toNat)

/-! ## Reset -/

/-- R36: what the block holds after reset, at power-on on any part and after the reset input in any
state.  The values R36 leaves unspecified (alg, acc, the other fields of OP; log 5, 6, 7) are not
said. -/
def Obligations.ResetLeavesTheStatedValues : Prop :=
  ∀ s : State, ((∃ p, s = State.resetWith p) ∨ ∃ t, s = resetBlock t) →
    readReg .status s = 0x00000000#32 ∧ readReg .ctrl s = 0x00000000#32 ∧
    readReg .prev s = 0x00000000#32 ∧ readReg .addrLo s = 0x00000000#32 ∧
    readReg .addrHi s = 0x00000000#32 ∧ readReg .len s = 0x00000000#32 ∧
    readReg .result s = 0x00000000#32 ∧ readReg .cap s = capWord s.params ∧
    s.status.overrun = false ∧ s.op.active = false ∧
    s.ctxs.length = s.params.nCtx ∧ ∀ k, (ctxAt s k).valid = false

/-- R115, R36: asserting the reset input sets every register and context to the values of R36, abandons
the command in flight with no completion, and touches no byte of memory, no parameter and nothing on
the host's side but its own event. -/
def Obligations.ResetInputAbandonsTheCommand : Prop :=
  ∀ (s : State) (rest : List HostOp), s.host = .reset :: rest →
    hostReady s = true ∧
    ∃ t, hostStep s = .next t ∧ t.op.active = false ∧ t.status = Status.reset ∧
      readReg .status t = 0x00000000#32 ∧ readReg .ctrl t = 0x00000000#32 ∧ t.forceSerial = false ∧
      t.prev = 0x00000000#32 ∧ t.addrLo = 0x00000000#32 ∧ t.addrHi = 0x00000000#32 ∧
      t.len = 0x00000000#32 ∧ t.result = 0x00000000#32 ∧ readReg .cap t = readReg .cap s ∧
      t.ctxs.length = s.params.nCtx ∧ (∀ k, (ctxAt t k).valid = false) ∧
      (∀ a, Memory.read t.mem a = Memory.read s.mem a) ∧ t.params = s.params ∧
      t.sideEffects = s.sideEffects ∧ t.host = rest ∧ t.reads = s.reads ∧
      ∀ n, blockRun n t = t

/-- R117: after reset UPDATE, CHECKSUM and DROP on any context the block has are refused with
CTX_INVALID. -/
def Obligations.NoContextSurvivesReset : Prop :=
  ∀ (s : State) (k : Nat) (i : Instr), ((∃ p, s = State.resetWith p) ∨ ∃ t, s = resetBlock t) →
    k < s.params.nCtx → (i = .update k ∨ i = .checksum k ∨ i = .drop k) →
    ∃ u, exec i s = .next u ∧ u.status.errcode = .ctxInvalid ∧ u.status.done = true ∧
      u.status.busy = false ∧ u.result = 0#32

/-! ## The CRC arithmetic -/

/-- R68: the reflected polynomials, and that their normal forms are the bit reversals. -/
def Obligations.PolynomialsAreReflected : Prop :=
  poly .crc32 = 0xEDB88320#32 ∧ poly .crc32c = 0x82F63B78#32 ∧
  (poly .crc32).reverse = 0x04C11DB7#32 ∧ (poly .crc32c).reverse = 0x1EDC6F41#32

/-- R69, R70: a table entry is the serial step of its index over a zero byte; the anchor entries. -/
def Obligations.TablesHoldTheAnchors : Prop :=
  (∀ (a : Alg) (n : Byte), tableEntry a n = serialByte (poly a) (n.setWidth 32) 0#8) ∧
  tableEntry .crc32 0x01#8 = 0x77073096#32 ∧ tableEntry .crc32 0x80#8 = 0xEDB88320#32 ∧
  tableEntry .crc32 0xFF#8 = 0x2D02EF8D#32 ∧ tableEntry .crc32c 0x01#8 = 0xF26B8303#32 ∧
  tableEntry .crc32c 0x80#8 = 0x82F63B78#32 ∧ tableEntry .crc32c 0xFF#8 = 0xAD7D5351#32

/-- R72: the table step is the bit-serial step, for every state and byte. -/
def Obligations.TableStepIsSerialStep : Prop :=
  ∀ (a : Alg) (S : Word) (b : Byte), tableByte a S b = serialByte (poly a) S b

/-- R73: a slice-by-N step equals N table byte steps, for N = 8 and 16 (and any N from 4 up). -/
def Obligations.SliceStepIsByteSteps : Prop :=
  ∀ (a : Alg) (S : Word) (d : List Byte), 4 ≤ d.length → sliceStep a S d = crcFold a S d

/-- R77: the word fold equals the byte steps when the word is assembled little-endian; assembled
big-endian the two differ in general. -/
def Obligations.WordFoldIsByteSteps : Prop :=
  (∀ (S : Word) (d : List Byte), d.length = 4 → foldWord 4 S (loadLE (8 * 4) d) = crcFold .crc32c S d) ∧
  (∀ (S : Word) (d : List Byte), d.length = 8 → foldWord 8 S (loadLE (8 * 8) d) = crcFold .crc32c S d) ∧
  (∃ (S : Word) (d : List Byte), d.length = 4 ∧
    foldWord 4 S (loadLE (8 * 4) d.reverse) ≠ crcFold .crc32c S d) ∧
  (∃ (S : Word) (d : List Byte), d.length = 8 ∧
    foldWord 8 S (loadLE (8 * 8) d.reverse) ≠ crcFold .crc32c S d)

/-- R78: every engine a build may have, and every split of the buffer among its moves, gives the value
of R76; and the bit that forces the serial engine changes nothing a command in flight computes. -/
def Obligations.EveryEngineGivesTheSameValue : Prop :=
  (∀ (bld : Build) (a : Alg) (serial : Bool) (ms : List EngineMove) (S S' : Word) (d : List Byte),
    (∀ m ∈ ms, m.admitted bld a serial = true) → engineRun a ms S d = some S' →
    S' = crcFold a S d) ∧
  (∀ (n : Nat) (s : State) (b : Bool),
    blockRun n (s.setOp { s.op with serial := b }) =
      (blockRun n s).setOp { (blockRun n s).op with serial := b })

/-- R82: the CRC of no bytes is the previous value. -/
def Obligations.CrcOfNothingIsPrev : Prop :=
  ∀ (a : Alg) (prev : Word), crc a [] prev = prev

/-- R83: continuation. -/
def Obligations.CrcContinues : Prop :=
  ∀ (a : Alg) (prev : Word) (x y : List Byte), crc a (x ++ y) prev = crc a y (crc a x prev)

/-- R84: affinity over GF(2), and that the order of the bytes matters. -/
def Obligations.CrcIsAffine : Prop :=
  (∀ (a : Alg) (x y z : List Byte) (p q r : Word), x.length = y.length → y.length = z.length →
    crc a (List.zipWith (· ^^^ ·) (List.zipWith (· ^^^ ·) x y) z) (p ^^^ q ^^^ r) =
      crc a x p ^^^ crc a y q ^^^ crc a z r) ∧
  crc .crc32 ([0x31#8, 0x32#8, 0x33#8, 0x34#8, 0x35#8] ++ [0x36#8, 0x37#8, 0x38#8, 0x39#8]) 0#32
    = 0xCBF43926#32 ∧
  crc .crc32 ([0x36#8, 0x37#8, 0x38#8, 0x39#8] ++ [0x31#8, 0x32#8, 0x33#8, 0x34#8, 0x35#8]) 0#32
    = 0x810487C3#32

/-- R85: the check values of the source. -/
def Obligations.CheckValues : Prop :=
  crc .crc32 [0x31#8, 0x32#8, 0x33#8, 0x34#8, 0x35#8, 0x36#8, 0x37#8, 0x38#8, 0x39#8] 0#32 = 0xCBF43926#32 ∧
  crc .crc32 (List.replicate 32 0#8) 0#32 = 0x190A55AD#32 ∧
  crc .crc32c [0x31#8, 0x32#8, 0x33#8, 0x34#8, 0x35#8, 0x36#8, 0x37#8, 0x38#8, 0x39#8] 0#32 = 0xE3069283#32 ∧
  crc .crc32c (List.replicate 32 0#8) 0#32 = 0x8A9136AA#32

/-! ## The machine as a whole -/

/-- The invariant holds after reset, on every part. -/
def Obligations.ResetMeetsTheInvariant : Prop :=
  ∀ p : Params, (State.resetWith p).Inv

/-- Every step keeps the invariant: OP.active equals BUSY, BUSY and DONE never together, the latched
context, length and address stay admitted, the memory keeps its canonical form. -/
def Obligations.StepKeepsTheInvariant : Prop :=
  ∀ s t : State, s.Inv → step s = .next t → t.Inv

/-- Where host and block can both move, both orders are admitted and each move is one atomic step
(R12, R106).  How an order is named is the model's choice (log 4, DESIGN CHOICE): a script entry of
`n` host moves gives the block the step after them, and where the script has run out a free value
stands for the entry, whatever it is. -/
def Obligations.BothOrdersAreAdmitted : Prop :=
  ∀ (s : State) (n : Nat) (q : List Nat), s.op.active = true → hostReady s = true →
    step (s.setSched (0 :: q)) = .next (blockStep (s.setSched q)) ∧
    step (s.setSched ((n + 1) :: q)) = hostStep (s.setSched (n :: q)) ∧
    ∃ m, step (s.setSched []) =
      (match m with
        | 0 => .next (blockStep ((s.setSched []).setDraws (s.draws + 1)))
        | k + 1 => hostStep ((s.setSched [k]).setDraws (s.draws + 1)))

/-- A step runs the decoded command: where the host's next access is a write of a word to CMD that
decodes to `i`, and the move is the host's, the step is `exec i` of the state with that access taken
off the list (and the script advanced); `withFetchWord` makes the very next step such a one.  R33 and
R62 say that a CMD write issues its word; the host's list and `withFetchWord` (log 1) and the script
(log 4) are the model's choices, both DESIGN CHOICE. -/
def Obligations.StepRunsTheDecodedCommand : Prop :=
  (∀ (s : State) (rest : List HostOp) (w : Word) (i : Instr),
    s.host = wrReg s.params .cmd w :: rest → decode w = .command i →
    (s.op.active = false → step s = exec i (s.setHost rest)) ∧
    (∀ n q, s.op.active = true → s.sched = (n + 1) :: q →
      step s = exec i ((s.setSched (n :: q)).setHost rest))) ∧
  (∀ (s : State) (nbits w : Nat) (i : Instr),
    decode (BitVec.ofNat 32 (w % 2 ^ nbits)) = .command i →
    step (s.withFetchWord nbits w) =
      exec i (if s.op.active then s.setSched (0 :: s.sched) else s))

/-- R121: a step that respects hazard 1 never sets OVERRUN. -/
def Obligations.NoOverrunWithoutTheHazard : Prop :=
  ∀ s t : State, step s = .next t → noOverrunHazard s → s.status.overrun = false →
    t.status.overrun = false

/-- R123, R44: a step that respects hazard 3 leaves no raced byte, so every read of the command in
flight returns the byte as it stands. -/
def Obligations.NoRaceWithoutTheHazard : Prop :=
  ∀ s t : State, step s = .next t → noBufferHazard s → s.raced = [] →
    t.raced = [] ∧ ∀ a, memRead t a = Memory.read t.mem a

/-- R104: ERRCODE keeps its value until the next accepted CMD write or until reset; a dropped CMD write
does not clear it. -/
def Obligations.ErrorCodeStaysUntilTheNextIssue : Prop :=
  ∀ s t : State, s.Inv → step s = .next t → s.status.errcode ≠ .noError →
    t.status.errcode ≠ s.status.errcode →
    (∃ rest, s.host = .reset :: rest) ∨
    (s.status.busy = false ∧ ∃ w rest, s.host = wrReg s.params .cmd w :: rest)

/-- R113, R128: once a run has ended the idle block retains all its state (log 19). -/
def Obligations.IdleBlockKeepsItsState : Prop :=
  ∀ s : State, s.Inv → runEnded s → step s = .next s ∧ ∀ n, blockRun n s = s
end

