-- ==== Sys2Proof/Laws/State.lean ====
section
/-! SUPPORT. One lemma per field per update of State, all true by rfl. -/

namespace Sys2Proof.Machine

variable (s : State)

@[simp] theorem State.setStatus_params (v : Status) : (s.setStatus v).params = s.params := rfl
@[simp] theorem State.setStatus_status (v : Status) : (s.setStatus v).status = v := rfl
@[simp] theorem State.setStatus_forceSerial (v : Status) : (s.setStatus v).forceSerial = s.forceSerial := rfl
@[simp] theorem State.setStatus_prev (v : Status) : (s.setStatus v).prev = s.prev := rfl
@[simp] theorem State.setStatus_addrLo (v : Status) : (s.setStatus v).addrLo = s.addrLo := rfl
@[simp] theorem State.setStatus_addrHi (v : Status) : (s.setStatus v).addrHi = s.addrHi := rfl
@[simp] theorem State.setStatus_len (v : Status) : (s.setStatus v).len = s.len := rfl
@[simp] theorem State.setStatus_result (v : Status) : (s.setStatus v).result = s.result := rfl
@[simp] theorem State.setStatus_ctxs (v : Status) : (s.setStatus v).ctxs = s.ctxs := rfl
@[simp] theorem State.setStatus_op (v : Status) : (s.setStatus v).op = s.op := rfl
@[simp] theorem State.setStatus_mem (v : Status) : (s.setStatus v).mem = s.mem := rfl
@[simp] theorem State.setStatus_sideEffects (v : Status) : (s.setStatus v).sideEffects = s.sideEffects := rfl
@[simp] theorem State.setStatus_host (v : Status) : (s.setStatus v).host = s.host := rfl
@[simp] theorem State.setStatus_reads (v : Status) : (s.setStatus v).reads = s.reads := rfl
@[simp] theorem State.setStatus_sched (v : Status) : (s.setStatus v).sched = s.sched := rfl
@[simp] theorem State.setStatus_raced (v : Status) : (s.setStatus v).raced = s.raced := rfl
@[simp] theorem State.setStatus_draws (v : Status) : (s.setStatus v).draws = s.draws := rfl

@[simp] theorem State.setForceSerial_params (v : Bool) : (s.setForceSerial v).params = s.params := rfl
@[simp] theorem State.setForceSerial_status (v : Bool) : (s.setForceSerial v).status = s.status := rfl
@[simp] theorem State.setForceSerial_forceSerial (v : Bool) : (s.setForceSerial v).forceSerial = v := rfl
@[simp] theorem State.setForceSerial_prev (v : Bool) : (s.setForceSerial v).prev = s.prev := rfl
@[simp] theorem State.setForceSerial_addrLo (v : Bool) : (s.setForceSerial v).addrLo = s.addrLo := rfl
@[simp] theorem State.setForceSerial_addrHi (v : Bool) : (s.setForceSerial v).addrHi = s.addrHi := rfl
@[simp] theorem State.setForceSerial_len (v : Bool) : (s.setForceSerial v).len = s.len := rfl
@[simp] theorem State.setForceSerial_result (v : Bool) : (s.setForceSerial v).result = s.result := rfl
@[simp] theorem State.setForceSerial_ctxs (v : Bool) : (s.setForceSerial v).ctxs = s.ctxs := rfl
@[simp] theorem State.setForceSerial_op (v : Bool) : (s.setForceSerial v).op = s.op := rfl
@[simp] theorem State.setForceSerial_mem (v : Bool) : (s.setForceSerial v).mem = s.mem := rfl
@[simp] theorem State.setForceSerial_sideEffects (v : Bool) : (s.setForceSerial v).sideEffects = s.sideEffects := rfl
@[simp] theorem State.setForceSerial_host (v : Bool) : (s.setForceSerial v).host = s.host := rfl
@[simp] theorem State.setForceSerial_reads (v : Bool) : (s.setForceSerial v).reads = s.reads := rfl
@[simp] theorem State.setForceSerial_sched (v : Bool) : (s.setForceSerial v).sched = s.sched := rfl
@[simp] theorem State.setForceSerial_raced (v : Bool) : (s.setForceSerial v).raced = s.raced := rfl
@[simp] theorem State.setForceSerial_draws (v : Bool) : (s.setForceSerial v).draws = s.draws := rfl

@[simp] theorem State.setPrev_params (v : Word) : (s.setPrev v).params = s.params := rfl
@[simp] theorem State.setPrev_status (v : Word) : (s.setPrev v).status = s.status := rfl
@[simp] theorem State.setPrev_forceSerial (v : Word) : (s.setPrev v).forceSerial = s.forceSerial := rfl
@[simp] theorem State.setPrev_prev (v : Word) : (s.setPrev v).prev = v := rfl
@[simp] theorem State.setPrev_addrLo (v : Word) : (s.setPrev v).addrLo = s.addrLo := rfl
@[simp] theorem State.setPrev_addrHi (v : Word) : (s.setPrev v).addrHi = s.addrHi := rfl
@[simp] theorem State.setPrev_len (v : Word) : (s.setPrev v).len = s.len := rfl
@[simp] theorem State.setPrev_result (v : Word) : (s.setPrev v).result = s.result := rfl
@[simp] theorem State.setPrev_ctxs (v : Word) : (s.setPrev v).ctxs = s.ctxs := rfl
@[simp] theorem State.setPrev_op (v : Word) : (s.setPrev v).op = s.op := rfl
@[simp] theorem State.setPrev_mem (v : Word) : (s.setPrev v).mem = s.mem := rfl
@[simp] theorem State.setPrev_sideEffects (v : Word) : (s.setPrev v).sideEffects = s.sideEffects := rfl
@[simp] theorem State.setPrev_host (v : Word) : (s.setPrev v).host = s.host := rfl
@[simp] theorem State.setPrev_reads (v : Word) : (s.setPrev v).reads = s.reads := rfl
@[simp] theorem State.setPrev_sched (v : Word) : (s.setPrev v).sched = s.sched := rfl
@[simp] theorem State.setPrev_raced (v : Word) : (s.setPrev v).raced = s.raced := rfl
@[simp] theorem State.setPrev_draws (v : Word) : (s.setPrev v).draws = s.draws := rfl

@[simp] theorem State.setAddrLo_params (v : Word) : (s.setAddrLo v).params = s.params := rfl
@[simp] theorem State.setAddrLo_status (v : Word) : (s.setAddrLo v).status = s.status := rfl
@[simp] theorem State.setAddrLo_forceSerial (v : Word) : (s.setAddrLo v).forceSerial = s.forceSerial := rfl
@[simp] theorem State.setAddrLo_prev (v : Word) : (s.setAddrLo v).prev = s.prev := rfl
@[simp] theorem State.setAddrLo_addrLo (v : Word) : (s.setAddrLo v).addrLo = v := rfl
@[simp] theorem State.setAddrLo_addrHi (v : Word) : (s.setAddrLo v).addrHi = s.addrHi := rfl
@[simp] theorem State.setAddrLo_len (v : Word) : (s.setAddrLo v).len = s.len := rfl
@[simp] theorem State.setAddrLo_result (v : Word) : (s.setAddrLo v).result = s.result := rfl
@[simp] theorem State.setAddrLo_ctxs (v : Word) : (s.setAddrLo v).ctxs = s.ctxs := rfl
@[simp] theorem State.setAddrLo_op (v : Word) : (s.setAddrLo v).op = s.op := rfl
@[simp] theorem State.setAddrLo_mem (v : Word) : (s.setAddrLo v).mem = s.mem := rfl
@[simp] theorem State.setAddrLo_sideEffects (v : Word) : (s.setAddrLo v).sideEffects = s.sideEffects := rfl
@[simp] theorem State.setAddrLo_host (v : Word) : (s.setAddrLo v).host = s.host := rfl
@[simp] theorem State.setAddrLo_reads (v : Word) : (s.setAddrLo v).reads = s.reads := rfl
@[simp] theorem State.setAddrLo_sched (v : Word) : (s.setAddrLo v).sched = s.sched := rfl
@[simp] theorem State.setAddrLo_raced (v : Word) : (s.setAddrLo v).raced = s.raced := rfl
@[simp] theorem State.setAddrLo_draws (v : Word) : (s.setAddrLo v).draws = s.draws := rfl

@[simp] theorem State.setAddrHi_params (v : Word) : (s.setAddrHi v).params = s.params := rfl
@[simp] theorem State.setAddrHi_status (v : Word) : (s.setAddrHi v).status = s.status := rfl
@[simp] theorem State.setAddrHi_forceSerial (v : Word) : (s.setAddrHi v).forceSerial = s.forceSerial := rfl
@[simp] theorem State.setAddrHi_prev (v : Word) : (s.setAddrHi v).prev = s.prev := rfl
@[simp] theorem State.setAddrHi_addrLo (v : Word) : (s.setAddrHi v).addrLo = s.addrLo := rfl
@[simp] theorem State.setAddrHi_addrHi (v : Word) : (s.setAddrHi v).addrHi = v := rfl
@[simp] theorem State.setAddrHi_len (v : Word) : (s.setAddrHi v).len = s.len := rfl
@[simp] theorem State.setAddrHi_result (v : Word) : (s.setAddrHi v).result = s.result := rfl
@[simp] theorem State.setAddrHi_ctxs (v : Word) : (s.setAddrHi v).ctxs = s.ctxs := rfl
@[simp] theorem State.setAddrHi_op (v : Word) : (s.setAddrHi v).op = s.op := rfl
@[simp] theorem State.setAddrHi_mem (v : Word) : (s.setAddrHi v).mem = s.mem := rfl
@[simp] theorem State.setAddrHi_sideEffects (v : Word) : (s.setAddrHi v).sideEffects = s.sideEffects := rfl
@[simp] theorem State.setAddrHi_host (v : Word) : (s.setAddrHi v).host = s.host := rfl
@[simp] theorem State.setAddrHi_reads (v : Word) : (s.setAddrHi v).reads = s.reads := rfl
@[simp] theorem State.setAddrHi_sched (v : Word) : (s.setAddrHi v).sched = s.sched := rfl
@[simp] theorem State.setAddrHi_raced (v : Word) : (s.setAddrHi v).raced = s.raced := rfl
@[simp] theorem State.setAddrHi_draws (v : Word) : (s.setAddrHi v).draws = s.draws := rfl

@[simp] theorem State.setLen_params (v : Word) : (s.setLen v).params = s.params := rfl
@[simp] theorem State.setLen_status (v : Word) : (s.setLen v).status = s.status := rfl
@[simp] theorem State.setLen_forceSerial (v : Word) : (s.setLen v).forceSerial = s.forceSerial := rfl
@[simp] theorem State.setLen_prev (v : Word) : (s.setLen v).prev = s.prev := rfl
@[simp] theorem State.setLen_addrLo (v : Word) : (s.setLen v).addrLo = s.addrLo := rfl
@[simp] theorem State.setLen_addrHi (v : Word) : (s.setLen v).addrHi = s.addrHi := rfl
@[simp] theorem State.setLen_len (v : Word) : (s.setLen v).len = v := rfl
@[simp] theorem State.setLen_result (v : Word) : (s.setLen v).result = s.result := rfl
@[simp] theorem State.setLen_ctxs (v : Word) : (s.setLen v).ctxs = s.ctxs := rfl
@[simp] theorem State.setLen_op (v : Word) : (s.setLen v).op = s.op := rfl
@[simp] theorem State.setLen_mem (v : Word) : (s.setLen v).mem = s.mem := rfl
@[simp] theorem State.setLen_sideEffects (v : Word) : (s.setLen v).sideEffects = s.sideEffects := rfl
@[simp] theorem State.setLen_host (v : Word) : (s.setLen v).host = s.host := rfl
@[simp] theorem State.setLen_reads (v : Word) : (s.setLen v).reads = s.reads := rfl
@[simp] theorem State.setLen_sched (v : Word) : (s.setLen v).sched = s.sched := rfl
@[simp] theorem State.setLen_raced (v : Word) : (s.setLen v).raced = s.raced := rfl
@[simp] theorem State.setLen_draws (v : Word) : (s.setLen v).draws = s.draws := rfl

@[simp] theorem State.setResult_params (v : Word) : (s.setResult v).params = s.params := rfl
@[simp] theorem State.setResult_status (v : Word) : (s.setResult v).status = s.status := rfl
@[simp] theorem State.setResult_forceSerial (v : Word) : (s.setResult v).forceSerial = s.forceSerial := rfl
@[simp] theorem State.setResult_prev (v : Word) : (s.setResult v).prev = s.prev := rfl
@[simp] theorem State.setResult_addrLo (v : Word) : (s.setResult v).addrLo = s.addrLo := rfl
@[simp] theorem State.setResult_addrHi (v : Word) : (s.setResult v).addrHi = s.addrHi := rfl
@[simp] theorem State.setResult_len (v : Word) : (s.setResult v).len = s.len := rfl
@[simp] theorem State.setResult_result (v : Word) : (s.setResult v).result = v := rfl
@[simp] theorem State.setResult_ctxs (v : Word) : (s.setResult v).ctxs = s.ctxs := rfl
@[simp] theorem State.setResult_op (v : Word) : (s.setResult v).op = s.op := rfl
@[simp] theorem State.setResult_mem (v : Word) : (s.setResult v).mem = s.mem := rfl
@[simp] theorem State.setResult_sideEffects (v : Word) : (s.setResult v).sideEffects = s.sideEffects := rfl
@[simp] theorem State.setResult_host (v : Word) : (s.setResult v).host = s.host := rfl
@[simp] theorem State.setResult_reads (v : Word) : (s.setResult v).reads = s.reads := rfl
@[simp] theorem State.setResult_sched (v : Word) : (s.setResult v).sched = s.sched := rfl
@[simp] theorem State.setResult_raced (v : Word) : (s.setResult v).raced = s.raced := rfl
@[simp] theorem State.setResult_draws (v : Word) : (s.setResult v).draws = s.draws := rfl

@[simp] theorem State.setCtxs_params (v : List Context) : (s.setCtxs v).params = s.params := rfl
@[simp] theorem State.setCtxs_status (v : List Context) : (s.setCtxs v).status = s.status := rfl
@[simp] theorem State.setCtxs_forceSerial (v : List Context) : (s.setCtxs v).forceSerial = s.forceSerial := rfl
@[simp] theorem State.setCtxs_prev (v : List Context) : (s.setCtxs v).prev = s.prev := rfl
@[simp] theorem State.setCtxs_addrLo (v : List Context) : (s.setCtxs v).addrLo = s.addrLo := rfl
@[simp] theorem State.setCtxs_addrHi (v : List Context) : (s.setCtxs v).addrHi = s.addrHi := rfl
@[simp] theorem State.setCtxs_len (v : List Context) : (s.setCtxs v).len = s.len := rfl
@[simp] theorem State.setCtxs_result (v : List Context) : (s.setCtxs v).result = s.result := rfl
@[simp] theorem State.setCtxs_ctxs (v : List Context) : (s.setCtxs v).ctxs = v := rfl
@[simp] theorem State.setCtxs_op (v : List Context) : (s.setCtxs v).op = s.op := rfl
@[simp] theorem State.setCtxs_mem (v : List Context) : (s.setCtxs v).mem = s.mem := rfl
@[simp] theorem State.setCtxs_sideEffects (v : List Context) : (s.setCtxs v).sideEffects = s.sideEffects := rfl
@[simp] theorem State.setCtxs_host (v : List Context) : (s.setCtxs v).host = s.host := rfl
@[simp] theorem State.setCtxs_reads (v : List Context) : (s.setCtxs v).reads = s.reads := rfl
@[simp] theorem State.setCtxs_sched (v : List Context) : (s.setCtxs v).sched = s.sched := rfl
@[simp] theorem State.setCtxs_raced (v : List Context) : (s.setCtxs v).raced = s.raced := rfl
@[simp] theorem State.setCtxs_draws (v : List Context) : (s.setCtxs v).draws = s.draws := rfl

@[simp] theorem State.setOp_params (v : Latch) : (s.setOp v).params = s.params := rfl
@[simp] theorem State.setOp_status (v : Latch) : (s.setOp v).status = s.status := rfl
@[simp] theorem State.setOp_forceSerial (v : Latch) : (s.setOp v).forceSerial = s.forceSerial := rfl
@[simp] theorem State.setOp_prev (v : Latch) : (s.setOp v).prev = s.prev := rfl
@[simp] theorem State.setOp_addrLo (v : Latch) : (s.setOp v).addrLo = s.addrLo := rfl
@[simp] theorem State.setOp_addrHi (v : Latch) : (s.setOp v).addrHi = s.addrHi := rfl
@[simp] theorem State.setOp_len (v : Latch) : (s.setOp v).len = s.len := rfl
@[simp] theorem State.setOp_result (v : Latch) : (s.setOp v).result = s.result := rfl
@[simp] theorem State.setOp_ctxs (v : Latch) : (s.setOp v).ctxs = s.ctxs := rfl
@[simp] theorem State.setOp_op (v : Latch) : (s.setOp v).op = v := rfl
@[simp] theorem State.setOp_mem (v : Latch) : (s.setOp v).mem = s.mem := rfl
@[simp] theorem State.setOp_sideEffects (v : Latch) : (s.setOp v).sideEffects = s.sideEffects := rfl
@[simp] theorem State.setOp_host (v : Latch) : (s.setOp v).host = s.host := rfl
@[simp] theorem State.setOp_reads (v : Latch) : (s.setOp v).reads = s.reads := rfl
@[simp] theorem State.setOp_sched (v : Latch) : (s.setOp v).sched = s.sched := rfl
@[simp] theorem State.setOp_raced (v : Latch) : (s.setOp v).raced = s.raced := rfl
@[simp] theorem State.setOp_draws (v : Latch) : (s.setOp v).draws = s.draws := rfl

@[simp] theorem State.setMem_params (v : Memory) : (s.setMem v).params = s.params := rfl
@[simp] theorem State.setMem_status (v : Memory) : (s.setMem v).status = s.status := rfl
@[simp] theorem State.setMem_forceSerial (v : Memory) : (s.setMem v).forceSerial = s.forceSerial := rfl
@[simp] theorem State.setMem_prev (v : Memory) : (s.setMem v).prev = s.prev := rfl
@[simp] theorem State.setMem_addrLo (v : Memory) : (s.setMem v).addrLo = s.addrLo := rfl
@[simp] theorem State.setMem_addrHi (v : Memory) : (s.setMem v).addrHi = s.addrHi := rfl
@[simp] theorem State.setMem_len (v : Memory) : (s.setMem v).len = s.len := rfl
@[simp] theorem State.setMem_result (v : Memory) : (s.setMem v).result = s.result := rfl
@[simp] theorem State.setMem_ctxs (v : Memory) : (s.setMem v).ctxs = s.ctxs := rfl
@[simp] theorem State.setMem_op (v : Memory) : (s.setMem v).op = s.op := rfl
@[simp] theorem State.setMem_mem (v : Memory) : (s.setMem v).mem = v := rfl
@[simp] theorem State.setMem_sideEffects (v : Memory) : (s.setMem v).sideEffects = s.sideEffects := rfl
@[simp] theorem State.setMem_host (v : Memory) : (s.setMem v).host = s.host := rfl
@[simp] theorem State.setMem_reads (v : Memory) : (s.setMem v).reads = s.reads := rfl
@[simp] theorem State.setMem_sched (v : Memory) : (s.setMem v).sched = s.sched := rfl
@[simp] theorem State.setMem_raced (v : Memory) : (s.setMem v).raced = s.raced := rfl
@[simp] theorem State.setMem_draws (v : Memory) : (s.setMem v).draws = s.draws := rfl

@[simp] theorem State.setHost_params (v : List HostOp) : (s.setHost v).params = s.params := rfl
@[simp] theorem State.setHost_status (v : List HostOp) : (s.setHost v).status = s.status := rfl
@[simp] theorem State.setHost_forceSerial (v : List HostOp) : (s.setHost v).forceSerial = s.forceSerial := rfl
@[simp] theorem State.setHost_prev (v : List HostOp) : (s.setHost v).prev = s.prev := rfl
@[simp] theorem State.setHost_addrLo (v : List HostOp) : (s.setHost v).addrLo = s.addrLo := rfl
@[simp] theorem State.setHost_addrHi (v : List HostOp) : (s.setHost v).addrHi = s.addrHi := rfl
@[simp] theorem State.setHost_len (v : List HostOp) : (s.setHost v).len = s.len := rfl
@[simp] theorem State.setHost_result (v : List HostOp) : (s.setHost v).result = s.result := rfl
@[simp] theorem State.setHost_ctxs (v : List HostOp) : (s.setHost v).ctxs = s.ctxs := rfl
@[simp] theorem State.setHost_op (v : List HostOp) : (s.setHost v).op = s.op := rfl
@[simp] theorem State.setHost_mem (v : List HostOp) : (s.setHost v).mem = s.mem := rfl
@[simp] theorem State.setHost_sideEffects (v : List HostOp) : (s.setHost v).sideEffects = s.sideEffects := rfl
@[simp] theorem State.setHost_host (v : List HostOp) : (s.setHost v).host = v := rfl
@[simp] theorem State.setHost_reads (v : List HostOp) : (s.setHost v).reads = s.reads := rfl
@[simp] theorem State.setHost_sched (v : List HostOp) : (s.setHost v).sched = s.sched := rfl
@[simp] theorem State.setHost_raced (v : List HostOp) : (s.setHost v).raced = s.raced := rfl
@[simp] theorem State.setHost_draws (v : List HostOp) : (s.setHost v).draws = s.draws := rfl

@[simp] theorem State.setReads_params (v : List Word) : (s.setReads v).params = s.params := rfl
@[simp] theorem State.setReads_status (v : List Word) : (s.setReads v).status = s.status := rfl
@[simp] theorem State.setReads_forceSerial (v : List Word) : (s.setReads v).forceSerial = s.forceSerial := rfl
@[simp] theorem State.setReads_prev (v : List Word) : (s.setReads v).prev = s.prev := rfl
@[simp] theorem State.setReads_addrLo (v : List Word) : (s.setReads v).addrLo = s.addrLo := rfl
@[simp] theorem State.setReads_addrHi (v : List Word) : (s.setReads v).addrHi = s.addrHi := rfl
@[simp] theorem State.setReads_len (v : List Word) : (s.setReads v).len = s.len := rfl
@[simp] theorem State.setReads_result (v : List Word) : (s.setReads v).result = s.result := rfl
@[simp] theorem State.setReads_ctxs (v : List Word) : (s.setReads v).ctxs = s.ctxs := rfl
@[simp] theorem State.setReads_op (v : List Word) : (s.setReads v).op = s.op := rfl
@[simp] theorem State.setReads_mem (v : List Word) : (s.setReads v).mem = s.mem := rfl
@[simp] theorem State.setReads_sideEffects (v : List Word) : (s.setReads v).sideEffects = s.sideEffects := rfl
@[simp] theorem State.setReads_host (v : List Word) : (s.setReads v).host = s.host := rfl
@[simp] theorem State.setReads_reads (v : List Word) : (s.setReads v).reads = v := rfl
@[simp] theorem State.setReads_sched (v : List Word) : (s.setReads v).sched = s.sched := rfl
@[simp] theorem State.setReads_raced (v : List Word) : (s.setReads v).raced = s.raced := rfl
@[simp] theorem State.setReads_draws (v : List Word) : (s.setReads v).draws = s.draws := rfl

@[simp] theorem State.setSched_params (v : List Nat) : (s.setSched v).params = s.params := rfl
@[simp] theorem State.setSched_status (v : List Nat) : (s.setSched v).status = s.status := rfl
@[simp] theorem State.setSched_forceSerial (v : List Nat) : (s.setSched v).forceSerial = s.forceSerial := rfl
@[simp] theorem State.setSched_prev (v : List Nat) : (s.setSched v).prev = s.prev := rfl
@[simp] theorem State.setSched_addrLo (v : List Nat) : (s.setSched v).addrLo = s.addrLo := rfl
@[simp] theorem State.setSched_addrHi (v : List Nat) : (s.setSched v).addrHi = s.addrHi := rfl
@[simp] theorem State.setSched_len (v : List Nat) : (s.setSched v).len = s.len := rfl
@[simp] theorem State.setSched_result (v : List Nat) : (s.setSched v).result = s.result := rfl
@[simp] theorem State.setSched_ctxs (v : List Nat) : (s.setSched v).ctxs = s.ctxs := rfl
@[simp] theorem State.setSched_op (v : List Nat) : (s.setSched v).op = s.op := rfl
@[simp] theorem State.setSched_mem (v : List Nat) : (s.setSched v).mem = s.mem := rfl
@[simp] theorem State.setSched_sideEffects (v : List Nat) : (s.setSched v).sideEffects = s.sideEffects := rfl
@[simp] theorem State.setSched_host (v : List Nat) : (s.setSched v).host = s.host := rfl
@[simp] theorem State.setSched_reads (v : List Nat) : (s.setSched v).reads = s.reads := rfl
@[simp] theorem State.setSched_sched (v : List Nat) : (s.setSched v).sched = v := rfl
@[simp] theorem State.setSched_raced (v : List Nat) : (s.setSched v).raced = s.raced := rfl
@[simp] theorem State.setSched_draws (v : List Nat) : (s.setSched v).draws = s.draws := rfl

@[simp] theorem State.setRaced_params (v : List Host.Cell) : (s.setRaced v).params = s.params := rfl
@[simp] theorem State.setRaced_status (v : List Host.Cell) : (s.setRaced v).status = s.status := rfl
@[simp] theorem State.setRaced_forceSerial (v : List Host.Cell) : (s.setRaced v).forceSerial = s.forceSerial := rfl
@[simp] theorem State.setRaced_prev (v : List Host.Cell) : (s.setRaced v).prev = s.prev := rfl
@[simp] theorem State.setRaced_addrLo (v : List Host.Cell) : (s.setRaced v).addrLo = s.addrLo := rfl
@[simp] theorem State.setRaced_addrHi (v : List Host.Cell) : (s.setRaced v).addrHi = s.addrHi := rfl
@[simp] theorem State.setRaced_len (v : List Host.Cell) : (s.setRaced v).len = s.len := rfl
@[simp] theorem State.setRaced_result (v : List Host.Cell) : (s.setRaced v).result = s.result := rfl
@[simp] theorem State.setRaced_ctxs (v : List Host.Cell) : (s.setRaced v).ctxs = s.ctxs := rfl
@[simp] theorem State.setRaced_op (v : List Host.Cell) : (s.setRaced v).op = s.op := rfl
@[simp] theorem State.setRaced_mem (v : List Host.Cell) : (s.setRaced v).mem = s.mem := rfl
@[simp] theorem State.setRaced_sideEffects (v : List Host.Cell) : (s.setRaced v).sideEffects = s.sideEffects := rfl
@[simp] theorem State.setRaced_host (v : List Host.Cell) : (s.setRaced v).host = s.host := rfl
@[simp] theorem State.setRaced_reads (v : List Host.Cell) : (s.setRaced v).reads = s.reads := rfl
@[simp] theorem State.setRaced_sched (v : List Host.Cell) : (s.setRaced v).sched = s.sched := rfl
@[simp] theorem State.setRaced_raced (v : List Host.Cell) : (s.setRaced v).raced = v := rfl
@[simp] theorem State.setRaced_draws (v : List Host.Cell) : (s.setRaced v).draws = s.draws := rfl

@[simp] theorem State.setDraws_params (v : Nat) : (s.setDraws v).params = s.params := rfl
@[simp] theorem State.setDraws_status (v : Nat) : (s.setDraws v).status = s.status := rfl
@[simp] theorem State.setDraws_forceSerial (v : Nat) : (s.setDraws v).forceSerial = s.forceSerial := rfl
@[simp] theorem State.setDraws_prev (v : Nat) : (s.setDraws v).prev = s.prev := rfl
@[simp] theorem State.setDraws_addrLo (v : Nat) : (s.setDraws v).addrLo = s.addrLo := rfl
@[simp] theorem State.setDraws_addrHi (v : Nat) : (s.setDraws v).addrHi = s.addrHi := rfl
@[simp] theorem State.setDraws_len (v : Nat) : (s.setDraws v).len = s.len := rfl
@[simp] theorem State.setDraws_result (v : Nat) : (s.setDraws v).result = s.result := rfl
@[simp] theorem State.setDraws_ctxs (v : Nat) : (s.setDraws v).ctxs = s.ctxs := rfl
@[simp] theorem State.setDraws_op (v : Nat) : (s.setDraws v).op = s.op := rfl
@[simp] theorem State.setDraws_mem (v : Nat) : (s.setDraws v).mem = s.mem := rfl
@[simp] theorem State.setDraws_sideEffects (v : Nat) : (s.setDraws v).sideEffects = s.sideEffects := rfl
@[simp] theorem State.setDraws_host (v : Nat) : (s.setDraws v).host = s.host := rfl
@[simp] theorem State.setDraws_reads (v : Nat) : (s.setDraws v).reads = s.reads := rfl
@[simp] theorem State.setDraws_sched (v : Nat) : (s.setDraws v).sched = s.sched := rfl
@[simp] theorem State.setDraws_raced (v : Nat) : (s.setDraws v).raced = s.raced := rfl
@[simp] theorem State.setDraws_draws (v : Nat) : (s.setDraws v).draws = v := rfl

@[simp] theorem State.setCtx_params (k : Nat) (c : Context) : (s.setCtx k c).params = s.params := rfl
@[simp] theorem State.setCtx_status (k : Nat) (c : Context) : (s.setCtx k c).status = s.status := rfl
@[simp] theorem State.setCtx_forceSerial (k : Nat) (c : Context) : (s.setCtx k c).forceSerial = s.forceSerial := rfl
@[simp] theorem State.setCtx_prev (k : Nat) (c : Context) : (s.setCtx k c).prev = s.prev := rfl
@[simp] theorem State.setCtx_addrLo (k : Nat) (c : Context) : (s.setCtx k c).addrLo = s.addrLo := rfl
@[simp] theorem State.setCtx_addrHi (k : Nat) (c : Context) : (s.setCtx k c).addrHi = s.addrHi := rfl
@[simp] theorem State.setCtx_len (k : Nat) (c : Context) : (s.setCtx k c).len = s.len := rfl
@[simp] theorem State.setCtx_result (k : Nat) (c : Context) : (s.setCtx k c).result = s.result := rfl
@[simp] theorem State.setCtx_ctxs (k : Nat) (c : Context) : (s.setCtx k c).ctxs = s.ctxs.set k c := rfl
@[simp] theorem State.setCtx_op (k : Nat) (c : Context) : (s.setCtx k c).op = s.op := rfl
@[simp] theorem State.setCtx_mem (k : Nat) (c : Context) : (s.setCtx k c).mem = s.mem := rfl
@[simp] theorem State.setCtx_sideEffects (k : Nat) (c : Context) : (s.setCtx k c).sideEffects = s.sideEffects := rfl
@[simp] theorem State.setCtx_host (k : Nat) (c : Context) : (s.setCtx k c).host = s.host := rfl
@[simp] theorem State.setCtx_reads (k : Nat) (c : Context) : (s.setCtx k c).reads = s.reads := rfl
@[simp] theorem State.setCtx_sched (k : Nat) (c : Context) : (s.setCtx k c).sched = s.sched := rfl
@[simp] theorem State.setCtx_raced (k : Nat) (c : Context) : (s.setCtx k c).raced = s.raced := rfl
@[simp] theorem State.setCtx_draws (k : Nat) (c : Context) : (s.setCtx k c).draws = s.draws := rfl

/-! Two writes of the same field: the second one stands. -/

@[simp] theorem State.setStatus_twice (v w : Status) : (s.setStatus v).setStatus w = s.setStatus w := rfl
@[simp] theorem State.setForceSerial_twice (v w : Bool) : (s.setForceSerial v).setForceSerial w = s.setForceSerial w := rfl
@[simp] theorem State.setPrev_twice (v w : Word) : (s.setPrev v).setPrev w = s.setPrev w := rfl
@[simp] theorem State.setAddrLo_twice (v w : Word) : (s.setAddrLo v).setAddrLo w = s.setAddrLo w := rfl
@[simp] theorem State.setAddrHi_twice (v w : Word) : (s.setAddrHi v).setAddrHi w = s.setAddrHi w := rfl
@[simp] theorem State.setLen_twice (v w : Word) : (s.setLen v).setLen w = s.setLen w := rfl
@[simp] theorem State.setResult_twice (v w : Word) : (s.setResult v).setResult w = s.setResult w := rfl
@[simp] theorem State.setCtxs_twice (v w : List Context) : (s.setCtxs v).setCtxs w = s.setCtxs w := rfl
@[simp] theorem State.setOp_twice (v w : Latch) : (s.setOp v).setOp w = s.setOp w := rfl
@[simp] theorem State.setMem_twice (v w : Memory) : (s.setMem v).setMem w = s.setMem w := rfl
@[simp] theorem State.setHost_twice (v w : List HostOp) : (s.setHost v).setHost w = s.setHost w := rfl
@[simp] theorem State.setReads_twice (v w : List Word) : (s.setReads v).setReads w = s.setReads w := rfl
@[simp] theorem State.setSched_twice (v w : List Nat) : (s.setSched v).setSched w = s.setSched w := rfl
@[simp] theorem State.setRaced_twice (v w : List Host.Cell) : (s.setRaced v).setRaced w = s.setRaced w := rfl
@[simp] theorem State.setDraws_twice (v w : Nat) : (s.setDraws v).setDraws w = s.setDraws w := rfl

end Sys2Proof.Machine
end

