-- ==== Sys2Proof/Laws/Memory.lean ====
section
/-! SUPPORT. The laws of the launch memory: read after write, and that a write keeps the canonical form. -/

namespace Sys2Proof.Machine

@[simp] theorem Memory.read_nil (a : Nat) : Memory.read [] a = none := rfl

theorem Memory.read_write_same (m : Memory) (a : Nat) (b : Byte) :
    Memory.read (Memory.write m a b) a = some b := by
  induction m with
  | nil => simp [Memory.write, Memory.read]
  | cons c m ih =>
    obtain ⟨x, v⟩ := c
    simp only [Memory.write]
    split
    · simp [Memory.read]
    · split
      · simp [Memory.read]
      · rename_i h
        simp [Memory.read, h, ih]

theorem Memory.read_write_other (m : Memory) (a e : Nat) (b : Byte) (h : e ≠ a) :
    Memory.read (Memory.write m a b) e = Memory.read m e := by
  induction m with
  | nil => simp [Memory.write, Memory.read, Ne.symm h]
  | cons c m ih =>
    obtain ⟨x, v⟩ := c
    simp only [Memory.write]
    split
    · simp [Memory.read, Ne.symm h]
    · split
      · rename_i hx
        subst hx
        simp [Memory.read, Ne.symm h]
      · simp only [Memory.read, ih]

/-- A write puts one address in and takes none out. -/
theorem Memory.mem_write (m : Memory) (a : Nat) (b : Byte) (c : Host.Cell)
    (h : c ∈ Memory.write m a b) : c = (a, b) ∨ c ∈ m := by
  induction m with
  | nil => simpa [Memory.write] using h
  | cons d m ih =>
    obtain ⟨x, v⟩ := d
    simp only [Memory.write] at h
    split at h
    · simpa using h
    · split at h
      · simp only [List.mem_cons] at h ⊢
        tauto
      · simp only [List.mem_cons] at h ⊢
        rcases h with h | h
        · exact .inr (.inl h)
        · rcases ih h with h | h
          · exact .inl h
          · exact .inr (.inr h)

theorem Memory.wf_cons (c : Host.Cell) (m : Memory) :
    Memory.wf (c :: m) = true ↔ (∀ d ∈ m.head?, c.1 < d.1) ∧ Memory.wf m = true := by
  cases m with
  | nil => simp [Memory.wf]
  | cons d m => simp [Memory.wf]

/-- A write keeps the canonical form. -/
theorem Memory.wf_write (m : Memory) (a : Nat) (b : Byte) (h : Memory.wf m = true) :
    Memory.wf (Memory.write m a b) = true := by
  induction m with
  | nil => rfl
  | cons c m ih =>
    obtain ⟨x, v⟩ := c
    obtain ⟨hx, hm⟩ := (Memory.wf_cons _ _).1 h
    simp only [Memory.write]
    split
    · rename_i hlt
      exact (Memory.wf_cons _ _).2 ⟨by simpa using hlt, h⟩
    · split
      · rename_i hxa
        subst hxa
        exact (Memory.wf_cons _ _).2 ⟨hx, hm⟩
      · rename_i hle hne
        refine (Memory.wf_cons _ _).2 ⟨?_, ih hm⟩
        intro d hd
        cases m with
        | nil =>
          simp only [Memory.write, List.head?_cons, Option.mem_def, Option.some.injEq] at hd
          subst hd
          show x < a
          omega
        | cons e m =>
          obtain ⟨y, u⟩ := e
          have hy : x < y := hx (y, u) rfl
          simp only [Memory.write] at hd
          split at hd
          · simp only [List.head?_cons, Option.mem_def, Option.some.injEq] at hd
            subst hd
            show x < a
            omega
          · split at hd <;>
              (simp only [List.head?_cons, Option.mem_def, Option.some.injEq] at hd; subst hd)
            · show x < a
              omega
            · exact hy

/-- A byte that reads is listed. -/
theorem Memory.mem_of_read (m : Memory) (a : Nat) (b : Byte) (h : Memory.read m a = some b) :
    (a, b) ∈ m := by
  induction m with
  | nil => simp at h
  | cons c m ih =>
    obtain ⟨x, v⟩ := c
    simp only [Memory.read] at h
    split at h
    · rename_i hx
      subst hx
      simp_all
    · exact List.mem_cons_of_mem _ (ih h)

theorem Memory.bytes?_length (m : Memory) (a n : Nat) (d : List Byte)
    (h : Memory.bytes? m a n = some d) : d.length = n := by
  induction n generalizing a d with
  | zero => simp_all [Memory.bytes?]
  | succ n ih =>
    simp only [Memory.bytes?] at h
    split at h
    · rename_i b e _ he
      cases h
      simp [ih _ _ he]
    · cases h

/-- The byte `i` of a run of bytes is the byte at `a + i`. -/
theorem Memory.bytes?_get (m : Memory) (a n i : Nat) (d : List Byte)
    (h : Memory.bytes? m a n = some d) (hi : i < d.length) :
    Memory.read m (a + i) = some (d[i]'hi) := by
  induction n generalizing a d i with
  | zero =>
    simp only [Memory.bytes?, Option.some.injEq] at h
    subst h
    simp at hi
  | succ n ih =>
    simp only [Memory.bytes?] at h
    split at h
    · rename_i b e hb he
      cases h
      cases i with
      | zero => simpa using hb
      | succ i =>
        have := ih (a + 1) i e he (by simpa using hi)
        simpa [Nat.add_assoc, Nat.add_comm 1 i] using this
    · cases h

end Sys2Proof.Machine
end

