-- ==== Sys2Proof/Laws/Ops.lean ====
section
/-! SUPPORT. One lemma per shared operation of Ops, Flags and Operands: everything it can do. -/

namespace Sys2Proof.Machine

/-! ## STATUS -/

theorem Status.err_iff (st : Status) : st.err = true ↔ st.errcode ≠ .noError := by
  cases st with
  | mk b d o e => cases e <;> simp [Status.err, ErrCode.bits]

@[simp] theorem Status.issued_overrun (st : Status) : st.issued.overrun = st.overrun := rfl
@[simp] theorem Status.ended_overrun (e : ErrCode) (st : Status) : (st.ended e).overrun = st.overrun := rfl
@[simp] theorem Status.ended_errcode (e : ErrCode) (st : Status) : (st.ended e).errcode = e := rfl
@[simp] theorem Status.ended_busy (e : ErrCode) (st : Status) : (st.ended e).busy = false := rfl
@[simp] theorem Status.ended_done (e : ErrCode) (st : Status) : (st.ended e).done = true := rfl
@[simp] theorem Status.issued_busy (st : Status) : st.issued.busy = true := rfl
@[simp] theorem Status.issued_done (st : Status) : st.issued.done = false := rfl
@[simp] theorem Status.issued_errcode (st : Status) : st.issued.errcode = .noError := rfl
@[simp] theorem Status.write_busy (v : Word) (st : Status) : (st.write v).busy = st.busy := rfl
@[simp] theorem Status.write_errcode (v : Word) (st : Status) : (st.write v).errcode = st.errcode := rfl

/-! ## The latch -/

@[simp] theorem Latch.idle_active (o : Latch) : o.idle.active = false := rfl

/-- Clearing `active` of a latch that is inactive changes nothing. -/
theorem Latch.idle_of_inactive (o : Latch) (h : o.active = false) : o.idle = o := by
  cases o
  simp_all [Latch.idle]

@[simp] theorem Latch.consume_active (b : Byte) (o : Latch) : (o.consume b).active = o.active := rfl
@[simp] theorem Latch.consume_opc (b : Byte) (o : Latch) : (o.consume b).opc = o.opc := rfl
@[simp] theorem Latch.consume_k (b : Byte) (o : Latch) : (o.consume b).k = o.k := rfl
@[simp] theorem Latch.consume_alg (b : Byte) (o : Latch) : (o.consume b).alg = o.alg := rfl
@[simp] theorem Latch.consume_addr (b : Byte) (o : Latch) : (o.consume b).addr = o.addr := rfl
@[simp] theorem Latch.consume_len (b : Byte) (o : Latch) : (o.consume b).len = o.len := rfl
@[simp] theorem Latch.consume_serial (b : Byte) (o : Latch) : (o.consume b).serial = o.serial := rfl
@[simp] theorem Latch.consume_idx (b : Byte) (o : Latch) : (o.consume b).idx = o.idx + 1#32 := rfl
@[simp] theorem Latch.consume_S (b : Byte) (o : Latch) :
    (o.consume b).S = engineByte o.serial o.alg o.S b := rfl

/-- A context index below 256 survives the 8-bit field. -/
theorem latchFor_k (s : State) (o : Opcode) (k : Nat) (a : Alg) (S : Word) (h : k < 256) :
    (latchFor s o k a S).k.toNat = k := by
  simp [latchFor, Nat.mod_eq_of_lt h]

/-- N_CTX is at most 256 (R7). -/
theorem nCtx_le (p : Params) : p.nCtx ≤ 256 := p.lastCtx.isLt

/-! ## Contexts -/

/-- Reading a context back after a write to an index the file has. -/
theorem ctxAt_setCtx_same (s : State) (k : Nat) (c : Context) (h : k < s.ctxs.length) :
    ctxAt (s.setCtx k c) k = c := by
  simp [ctxAt, List.getD, h]

/-- A write to one context leaves every other as it was (R95). -/
theorem ctxAt_setCtx_other (s : State) (k j : Nat) (c : Context) (h : j ≠ k) :
    ctxAt (s.setCtx k c) j = ctxAt s j := by
  simp [ctxAt, List.getD, Ne.symm h]

/-- The contexts after reset are as many as asked for. -/
theorem freeContexts_length (n k : Nat) : (freeContexts n k).length = k := by
  induction k generalizing n with
  | zero => rfl
  | succ k ih => simp [freeContexts, ih]

/-- No context is valid after reset (R36). -/
theorem freeContexts_invalid (n k : Nat) : ∀ c ∈ freeContexts n k, c.valid = false := by
  induction k generalizing n with
  | zero => simp [freeContexts]
  | succ k ih =>
    intro c hc
    rcases List.mem_cons.1 hc with h | h
    · subst h
      rfl
    · exact ih (n + 1) c h

/-! ## Reading the buffer -/

/-- A byte that was not overwritten since issue reads as it stands (R39). -/
theorem memRead_of_not_raced (s : State) (a : Nat) (h : olderValues s.raced a = []) :
    memRead s a = Memory.read s.mem a := by
  unfold memRead
  cases Memory.read s.mem a <;> simp [pickHeld, h]

/-- A read is refused exactly where the launch memory refuses it (R39). -/
theorem memRead_eq_none (s : State) (a : Nat) : memRead s a = none ↔ Memory.read s.mem a = none := by
  simp [memRead]

/-! ## Checks -/

/-- No check of a sequence failed exactly when none of its members did. -/
theorem firstError_eq_noError (es : List ErrCode) :
    firstError es = .noError ↔ ∀ e ∈ es, e = .noError := by
  induction es with
  | nil => simp [firstError]
  | cons e es ih =>
    by_cases h : e = .noError <;> simp [firstError, h, ih]

theorem checkIndex_iff (k : Nat) (s : State) : checkIndex k s = .noError ↔ k < s.params.nCtx := by
  unfold checkIndex
  split <;> simp_all

theorem checkFree_iff (k : Nat) (s : State) : checkFree k s = .noError ↔ (ctxAt s k).valid = false := by
  unfold checkFree
  split <;> simp_all

theorem checkLive_iff (k : Nat) (s : State) : checkLive k s = .noError ↔ (ctxAt s k).valid = true := by
  unfold checkLive
  split <;> simp_all

theorem checkLen_iff (s : State) : checkLen s = .noError ↔ s.len.toNat < 0x80000000 := by
  unfold checkLen
  split <;> simp_all

theorem checkAddr_iff (s : State) :
    checkAddr s = .noError ↔ (addrOperand s).toNat + s.len.toNat ≤ s.params.addrLimit := by
  unfold checkAddr
  split <;> simp_all

/-! ## Issue -/

/-- What the issue of a word can do (R62): dropped, ended at issue, or started. -/
theorem acceptCommand_cases (e : ErrCode) (start : State → State) (s : State) :
    (s.status.busy = true ∧ acceptCommand e start s = s.setStatus s.status.overran) ∨
    (s.status.busy = false ∧ e = .noError ∧ acceptCommand e start s = start s) ∨
    (s.status.busy = false ∧ e ≠ .noError ∧ acceptCommand e start s = raiseError e s) := by
  unfold acceptCommand
  cases s.status.busy
  · by_cases h : e = .noError
    · exact .inr (.inl ⟨rfl, h, by simp [h]⟩)
    · exact .inr (.inr ⟨rfl, h, by simp [h]⟩)
  · exact .inl ⟨rfl, by simp⟩

/-- What the issue of a data command can do: the launch is refused (R44), or it is accepted. -/
theorem issueData_cases (e : ErrCode) (o : Opcode) (k : Nat) (a : Alg) (S : Word) (s : State) :
    (s.status.busy = false ∧ e = .noError ∧ bufferHasSideEffects s = true ∧
      issueData e o k a S s = .refused .readSideEffects) ∨
    ((s.status.busy = true ∨ e ≠ .noError ∨ bufferHasSideEffects s = false) ∧
      issueData e o k a S s = .next (acceptCommand e (startCommand (latchFor s o k a S)) s)) := by
  unfold issueData
  split
  · rename_i h
    simp only [Bool.and_eq_true, Bool.not_eq_true', decide_eq_true_eq] at h
    exact .inl ⟨h.1.1, h.1.2, h.2, rfl⟩
  · rename_i h
    refine .inr ⟨?_, rfl⟩
    by_cases h1 : s.status.busy = true
    · exact .inl h1
    · by_cases h2 : e = .noError
      · refine .inr (.inr ?_)
        simp_all
      · exact .inr (.inl h2)

/-! ## The block step -/

/-- What a block step can do (R63). -/
theorem blockStep_cases (s : State) :
    (s.op.active = false ∧ blockStep s = s) ∨
    (s.op.active = true ∧ moreBytes s = true ∧ ∃ b, memRead s (nextAddr s) = some b ∧
      blockStep s = (s.setOp (s.op.consume b)).setDraws (s.draws + 1)) ∨
    (s.op.active = true ∧ moreBytes s = true ∧ memRead s (nextAddr s) = none ∧
      blockStep s = raiseError .busError s) ∨
    (s.op.active = true ∧ moreBytes s = false ∧ blockStep s = complete s) := by
  unfold blockStep
  cases ha : s.op.active
  · exact .inl ⟨rfl, by simp⟩
  · cases hm : moreBytes s
    · exact .inr (.inr (.inr ⟨rfl, rfl, by simp⟩))
    · cases hr : memRead s (nextAddr s) with
      | none => exact .inr (.inr (.inl ⟨rfl, rfl, rfl, by simp⟩))
      | some b => exact .inr (.inl ⟨rfl, rfl, b, rfl, by simp⟩)

/-- While no command is in flight the block has no step. -/
theorem blockStep_of_inactive (s : State) (h : s.op.active = false) : blockStep s = s := by
  simp [blockStep, h]

/-- While no command is in flight, any number of block steps change nothing. -/
theorem blockRun_of_inactive (n : Nat) (s : State) (h : s.op.active = false) : blockRun n s = s := by
  induction n with
  | zero => rfl
  | succ n ih => simp [blockRun, blockStep_of_inactive s h, ih]

/-- Block steps in two parts. -/
theorem blockRun_add (m n : Nat) (s : State) : blockRun (m + n) s = blockRun n (blockRun m s) := by
  induction m generalizing s with
  | zero => simp [blockRun]
  | succ m ih =>
    rw [Nat.succ_add]
    exact ih (blockStep s)

end Sys2Proof.Machine
end

