-- ==== Sys2Proof/Laws/Block.lean ====
section
/-! SUPPORT. The block steps of a data command, packaged once: the induction over its bytes. -/

namespace Sys2Proof.Machine

/-- The latch keeps its command through a block step: only the engine state, the index and `active`
change. -/
theorem blockStep_latch (s : State) :
    (blockStep s).op.opc = s.op.opc ∧ (blockStep s).op.k = s.op.k ∧ (blockStep s).op.alg = s.op.alg ∧
    (blockStep s).op.addr = s.op.addr ∧ (blockStep s).op.len = s.op.len ∧
    (blockStep s).op.serial = s.op.serial := by
  rcases blockStep_cases s with ⟨_, he⟩ | ⟨_, _, b, _, he⟩ | ⟨_, _, _, he⟩ | ⟨_, _, he⟩ <;> rw [he]
  · exact ⟨rfl, rfl, rfl, rfl, rfl, rfl⟩
  · exact ⟨rfl, rfl, rfl, rfl, rfl, rfl⟩
  · exact ⟨rfl, rfl, rfl, rfl, rfl, rfl⟩
  · unfold complete ownWrites
    split <;> exact ⟨rfl, rfl, rfl, rfl, rfl, rfl⟩

/-- Where the next bytes `d` of the buffer are admitted and none was raced, `d.length` block steps fold
them into the engine state and advance the index, and change nothing else (R63). -/
theorem blockRun_bytes (d : List Byte) (t : State) (ha : t.op.active = true)
    (hd : t.op.opc.isData = true) (hr : t.raced = [])
    (hl : t.op.idx.toNat + d.length ≤ t.op.len.toNat)
    (hb : Memory.bytes? t.mem (t.op.addr.toNat + t.op.idx.toNat) d.length = some d) :
    ∃ n, blockRun d.length t =
      (t.setOp { t.op with
        S := d.foldl (engineByte t.op.serial t.op.alg) t.op.S
        idx := t.op.idx + BitVec.ofNat 32 d.length }).setDraws n := by
  induction d generalizing t with
  | nil => exact ⟨t.draws, by simp [blockRun]; rfl⟩
  | cons b d ih =>
    simp only [List.length_cons] at hl
    simp only [List.length_cons, Memory.bytes?] at hb
    split at hb
    · rename_i b' d' h1 h2
      cases hb
      have hmore : moreBytes t = true := by
        simp only [moreBytes, hd, Bool.true_and, decide_eq_true_eq]
        omega
      have hread : memRead t (nextAddr t) = some b := by
        rw [memRead_of_not_raced _ _ (by rw [hr]; rfl)]
        exact h1
      have hstep : blockStep t = (t.setOp (t.op.consume b)).setDraws (t.draws + 1) := by
        simp [blockStep, ha, hmore, hread]
      have hidx : (t.op.idx + 1#32).toNat = t.op.idx.toNat + 1 := by
        have := t.op.len.isLt
        rw [BitVec.toNat_add]
        simp
        omega
      obtain ⟨n, hn⟩ := ih ((t.setOp (t.op.consume b)).setDraws (t.draws + 1)) ha hd hr
        (by simp only [State.setDraws_op, State.setOp_op, Latch.consume_idx, Latch.consume_len, hidx]
            omega)
        (by simp only [State.setDraws_mem, State.setOp_mem, State.setDraws_op, State.setOp_op,
              Latch.consume_idx, Latch.consume_addr, hidx, ← Nat.add_assoc]
            exact h2)
      have hsum : t.op.idx + 1#32 + BitVec.ofNat 32 d.length = t.op.idx + BitVec.ofNat 32 (d.length + 1) := by
        apply BitVec.eq_of_toNat_eq
        simp [BitVec.toNat_add]
        omega
      refine ⟨n, ?_⟩
      rw [List.length_cons, blockRun, hstep, hn, ← hsum]
      rfl
    · cases hb

end Sys2Proof.Machine
end

