-- ==== Sys2Proof/Laws/Engine.lean ====
section
/-! SUPPORT. The linearity of the bit step, and the equations of the byte folds. -/

namespace Sys2Proof.Machine

variable {n : Nat}

/-- The bit step is linear over GF(2) in the state (R72, R84). -/
theorem bitStep_xor (P x y : BitVec n) : bitStep P (x ^^^ y) = bitStep P x ^^^ bitStep P y := by
  unfold bitStep
  rw [BitVec.getLsbD_xor, BitVec.ushiftRight_xor_distrib]
  cases x.getLsbD 0 <;> cases y.getLsbD 0 <;> simp
  · rw [BitVec.xor_assoc]
  · rw [BitVec.xor_assoc, BitVec.xor_assoc, BitVec.xor_comm P]
  · rw [BitVec.xor_assoc, BitVec.xor_comm P, BitVec.xor_assoc, BitVec.xor_self, BitVec.xor_zero]

/-- Any number of bit steps is linear in the state. -/
theorem bitSteps_xor (P : BitVec n) (k : Nat) (x y : BitVec n) :
    bitSteps P k (x ^^^ y) = bitSteps P k x ^^^ bitSteps P k y := by
  induction k generalizing x y with
  | zero => rfl
  | succ k ih => simp only [bitSteps, bitStep_xor, ih]

/-- Bit steps in two parts. -/
theorem bitSteps_add (P : BitVec n) (j k : Nat) (x : BitVec n) :
    bitSteps P (j + k) x = bitSteps P k (bitSteps P j x) := by
  induction j generalizing x with
  | zero => simp [bitSteps]
  | succ j ih =>
    rw [Nat.succ_add]
    exact ih (bitStep P x)

/-- Where the low bit is clear a bit step is a shift. -/
theorem bitStep_of_even (P S : BitVec n) (h : S.getLsbD 0 = false) : bitStep P S = S >>> 1 := by
  simp [bitStep, h]

/-- Where the low `k` bits are clear, `k` bit steps are a shift by `k`. -/
theorem bitSteps_of_low_zero (P : BitVec n) (k : Nat) (S : BitVec n)
    (h : ∀ i < k, S.getLsbD i = false) : bitSteps P k S = S >>> k := by
  induction k generalizing S with
  | zero => simp [bitSteps]
  | succ k ih =>
    rw [bitSteps, bitStep_of_even P S (h 0 (Nat.succ_pos k)), ih]
    · rw [← BitVec.shiftRight_add, Nat.add_comm]
    · intro i hi
      rw [BitVec.getLsbD_ushiftRight, Nat.add_comm]
      exact h (i + 1) (by omega)

@[simp] theorem crcFold_nil (a : Alg) (S : Word) : crcFold a S [] = S := rfl

@[simp] theorem crcFold_cons (a : Alg) (S : Word) (b : Byte) (d : List Byte) :
    crcFold a S (b :: d) = crcFold a (byteStep a S b) d := rfl

end Sys2Proof.Machine
end

