-- ==== Sys2Proof/Laws/PerInstr.lean ====
section
/-! SUPPORT. The family `Fields`: the three fields of the word of each command (R53, R55). -/

namespace Sys2Proof.Laws.Fields

/-- The word of `i` has RSV = 0 and the OPC of its opcode, and, where `i` is well formed, its CTX
field is its context index (R53). -/
def Statement (i : Instr) : Prop :=
  rsvField (encode i) = 0#16 ∧ opcField (encode i) = opcodeBits i.opcode ∧
    (i.wellFormed = true → (ctxField (encode i)).toNat = i.ctx)

/-- The fields of a word put together from a CTX and an OPC field. -/
theorem fields_of_append (c o : Byte) :
    rsvField ((0#16 ++ c) ++ o) = 0#16 ∧ opcField ((0#16 ++ c) ++ o) = o ∧
      ctxField ((0#16 ++ c) ++ o) = c := by
  refine ⟨?_, ?_, ?_⟩ <;>
    · apply BitVec.eq_of_getLsbD_eq
      intro i hi
      simp only [rsvField, opcField, ctxField, BitVec.getLsbD_extractLsb', BitVec.getLsbD_append]
      interval_cases i <;> simp

/-- Every command's word has its fields. -/
theorem of_instr (i : Instr) : Statement i := by
  obtain ⟨h1, h2, h3⟩ := fields_of_append (BitVec.ofNat 8 i.ctx) (opcodeBits i.opcode)
  refine ⟨h1, h2, fun hw => ?_⟩
  unfold Instr.wellFormed at hw
  have hk : i.ctx < 256 := by simpa [Nat.lt_succ_iff] using hw
  rw [show encode i = (0#16 ++ BitVec.ofNat 8 i.ctx) ++ opcodeBits i.opcode from rfl, h3]
  simp [Nat.mod_eq_of_lt hk]

theorem crc32 : Statement .crc32 := of_instr _
theorem crc32c : Statement .crc32c := of_instr _
theorem newCrc32 (k : Nat) : Statement (.newCrc32 k) := of_instr _
theorem newCrc32c (k : Nat) : Statement (.newCrc32c k) := of_instr _
theorem update (k : Nat) : Statement (.update k) := of_instr _
theorem checksum (k : Nat) : Statement (.checksum k) := of_instr _
theorem drop (k : Nat) : Statement (.drop k) := of_instr _

end Sys2Proof.Laws.Fields
end

