-- ==== Sys2Proof/Laws/Schedule.lean ====
section
/-! SUPPORT. What a step can do (R12), and the frames of a host access. -/

namespace Sys2Proof.Machine

/-- The script `sched` is never empty once filled (R65). -/
theorem fillSched_cons (s : State) : ∃ n q, (fillSched s).sched = n :: q := by
  unfold fillSched
  split
  · exact ⟨_, _, rfl⟩
  · rename_i n q h
    exact ⟨n, q, h⟩

/-- Filling the script touches nothing but the script and the count of draws. -/
theorem fillSched_eq (s : State) :
    ∃ q n, fillSched s = (s.setSched q).setDraws n := by
  unfold fillSched
  split
  · exact ⟨_, _, rfl⟩
  · exact ⟨s.sched, s.draws, rfl⟩

/-- Everything a step can do (R12, R65): idle, a block step, or a host step, the last two perhaps
after the script was advanced. -/
theorem step_cases (s : State) :
    (s.op.active = false ∧ hostReady s = false ∧ step s = .next s) ∨
    (s.op.active = true ∧ ∃ q n, step s = .next (blockStep ((s.setSched q).setDraws n))) ∨
    (hostReady s = true ∧ ∃ q n, step s = hostStep ((s.setSched q).setDraws n)) := by
  unfold step advance
  cases ha : s.op.active
  · cases hr : hostReady s
    · exact .inl ⟨rfl, rfl, by simp⟩
    · exact .inr (.inr ⟨rfl, s.sched, s.draws, by simp; rfl⟩)
  · cases hr : hostReady s
    · exact .inr (.inl ⟨rfl, s.sched.tail, s.draws, by simp; rfl⟩)
    · obtain ⟨q, n, hf⟩ := fillSched_eq s
      simp only [if_true, hf, contend]
      split
      · exact .inr (.inl ⟨trivial, q, n, rfl⟩)
      · rename_i rest hs
        exact .inr (.inl ⟨trivial, rest, n, rfl⟩)
      · rename_i m rest hs
        exact .inr (.inr ⟨trivial, m :: rest, n, rfl⟩)

/-- What a host step can do: nothing where nothing is left, else the first access of the list. -/
theorem hostStep_cases (s : State) :
    (s.host = [] ∧ hostStep s = .next s) ∨
    ∃ o rest, s.host = o :: rest ∧ hostStep s = hostOp o (s.setHost rest) := by
  unfold hostStep
  cases h : s.host with
  | nil => exact .inl ⟨rfl, rfl⟩
  | cons o rest => exact .inr ⟨o, rest, rfl, rfl⟩

/-- A word access at a register's place in the window reaches that register (R15). -/
theorem targetOf_reg (p : Params) (r : Reg) :
    targetOf p (p.regBase + r.offset) .word = .reg r := by
  have hw : meetsWindow p (p.regBase + r.offset) AccessWidth.word.bytes = true := by
    
    refine decide_eq_true ?_
    cases r <;> simp only [Reg.offset, AccessWidth.bytes] <;> omega
  unfold targetOf
  rw [if_pos hw]
  cases r <;> simp [Reg.offset, regAt]

end Sys2Proof.Machine
end

