-- ==== Sys2Proof/Tests/Slice0.lean ====
section
/-! SUPPORT. Small tests with results from the spec (95_test_vectors.md, the examples of the rules), and one witness for each statement that has hypotheses. -/

namespace Sys2Proof.Tests

open Sys2Proof Sys2Proof.Machine

/-! ## Well-formed commands (R58: an assembler refuses k > 255) -/

theorem test_wellFormed_edge : (Instr.update 255).wellFormed = true := by decide
theorem test_illFormed_newCrc32 : (Instr.newCrc32 256).wellFormed = false := by decide
theorem test_illFormed_newCrc32c : (Instr.newCrc32c 256).wellFormed = false := by decide
theorem test_illFormed_update : (Instr.update 256).wellFormed = false := by decide
theorem test_illFormed_checksum : (Instr.checksum 300).wellFormed = false := by decide
theorem test_illFormed_drop : (Instr.drop 256).wellFormed = false := by decide

/-! ## Decoding: the words of R58, written out as {RSV, CTX, OPC} -/

theorem test_decode_crc32 :
    decode (0b0000000000000000#16 ++ 0b00000000#8 ++ 0b00000001#8) = .command .crc32 := by decide
theorem test_decode_crc32c :
    decode (0b0000000000000000#16 ++ 0b00000000#8 ++ 0b00000010#8) = .command .crc32c := by decide
/-- The example of R88: `new.crc32 3` is 0x00000310. -/
theorem test_decode_newCrc32 : decode 0x00000310#32 = .command (.newCrc32 3) := by decide
/-- The example of R89: `new.crc32c 0` is 0x00000011. -/
theorem test_decode_newCrc32c : decode 0x00000011#32 = .command (.newCrc32c 0) := by decide
theorem test_decode_update :
    decode (0b0000000000000000#16 ++ 0b10000001#8 ++ 0b00100000#8) = .command (.update 129) := by decide
/-- P3 statement 15: `checksum 1` is 0x00000130. -/
theorem test_decode_checksum : decode 0x00000130#32 = .command (.checksum 1) := by decide
/-- The example of R92: `drop 3` is 0x00000340. -/
theorem test_decode_drop : decode 0x00000340#32 = .command (.drop 3) := by decide
/-- V71 to V75: illegal words. -/
theorem test_decode_illegal :
    decode 0x00000000#32 = .illegal .unknownOpcode ∧ decode 0x00000003#32 = .illegal .unknownOpcode ∧
    decode 0x00010001#32 = .illegal .reservedBits ∧ decode 0x00000101#32 = .illegal .ctxNotZero ∧
    decode 0x80000020#32 = .illegal .reservedBits := by decide
/-- R66: no two rows of the opcode table overlap on their OPC bits. -/
theorem test_rows_disjoint :
    opcodeRows.Pairwise (fun r q => r.pattern &&& 0xFF#32 ≠ q.pattern &&& 0xFF#32) := by decide
theorem test_encode_update : encode (.update 1) = 0x00000120#32 := by decide
theorem test_decodeTableWord : decodeTableWord 32 0x0340 = some (.drop 3) := by decide

/-! ## The CRC arithmetic (95_test_vectors.md 2.1, 2.2) -/

/-- V6, V8. -/
theorem test_serialByte :
    serialByte (poly .crc32) 0xFFFFFFFF#32 0x31#8 = 0x7C231048#32 ∧
    serialByte (poly .crc32c) 0xFFFFFFFF#32 0x31#8 = 0x6F0A661C#32 := by decide
/-- V7. -/
theorem test_tableByte : tableByte .crc32 0xFFFFFFFF#32 0x31#8 = 0x7C231048#32 := by decide
/-- V13. -/
theorem test_fold4 :
    foldWord 4 0xFFFFFFFF#32 (loadLE (8 * 4) [0x31#8, 0x32#8, 0x33#8, 0x34#8]) = 0x09C50B11#32 := by decide +kernel
/-- V14: a big-endian load is wrong. -/
theorem test_fold4_bigEndian : foldWord 4 0xFFFFFFFF#32 0x31323334#32 = 0x2CB08E4F#32 := by decide +kernel
/-- V15. -/
theorem test_fold8 : foldWord 8 0xFFFFFFFF#32 0x3837363534333231#64 = 0x9F787F65#32 := by decide +kernel
/-- V16, as the engine state after one fold of 8 bytes and one table byte (the last state of V12). -/
theorem test_engineRun_fold8 :
    engineRun .crc32c [.fold8, .table] 0xFFFFFFFF#32
      [0x31#8, 0x32#8, 0x33#8, 0x34#8, 0x35#8, 0x36#8, 0x37#8, 0x38#8, 0x39#8] = some 0x1CF96D7C#32 := by decide +kernel
/-- The eighth state of V11, by one slice-by-8 step. -/
theorem test_slice8 :
    sliceStep .crc32 0xFFFFFFFF#32 [0x31#8, 0x32#8, 0x33#8, 0x34#8, 0x35#8, 0x36#8, 0x37#8, 0x38#8]
      = 0x651F2550#32 := by decide
/-- V28, V48: one byte "a". -/
theorem test_crc_a :
    crc .crc32 [0x61#8] 0#32 = 0xE8B7BE43#32 ∧ crc .crc32c [0x61#8] 0#32 = 0xC1D04330#32 := by decide

/-! ## The tables as R69 and R70 list them -/

theorem test_t32_listing_00 :
    (List.range 32).map (fun n => tableEntry .crc32 (BitVec.ofNat 8 (0 + n))) =
  [ 0x00000000#32, 0x77073096#32, 0xEE0E612C#32, 0x990951BA#32, 0x076DC419#32, 0x706AF48F#32, 0xE963A535#32, 0x9E6495A3#32,
    0x0EDB8832#32, 0x79DCB8A4#32, 0xE0D5E91E#32, 0x97D2D988#32, 0x09B64C2B#32, 0x7EB17CBD#32, 0xE7B82D07#32, 0x90BF1D91#32,
    0x1DB71064#32, 0x6AB020F2#32, 0xF3B97148#32, 0x84BE41DE#32, 0x1ADAD47D#32, 0x6DDDE4EB#32, 0xF4D4B551#32, 0x83D385C7#32,
    0x136C9856#32, 0x646BA8C0#32, 0xFD62F97A#32, 0x8A65C9EC#32, 0x14015C4F#32, 0x63066CD9#32, 0xFA0F3D63#32, 0x8D080DF5#32 ] := by decide

theorem test_t32_listing_20 :
    (List.range 32).map (fun n => tableEntry .crc32 (BitVec.ofNat 8 (32 + n))) =
  [ 0x3B6E20C8#32, 0x4C69105E#32, 0xD56041E4#32, 0xA2677172#32, 0x3C03E4D1#32, 0x4B04D447#32, 0xD20D85FD#32, 0xA50AB56B#32,
    0x35B5A8FA#32, 0x42B2986C#32, 0xDBBBC9D6#32, 0xACBCF940#32, 0x32D86CE3#32, 0x45DF5C75#32, 0xDCD60DCF#32, 0xABD13D59#32,
    0x26D930AC#32, 0x51DE003A#32, 0xC8D75180#32, 0xBFD06116#32, 0x21B4F4B5#32, 0x56B3C423#32, 0xCFBA9599#32, 0xB8BDA50F#32,
    0x2802B89E#32, 0x5F058808#32, 0xC60CD9B2#32, 0xB10BE924#32, 0x2F6F7C87#32, 0x58684C11#32, 0xC1611DAB#32, 0xB6662D3D#32 ] := by decide

theorem test_t32_listing_40 :
    (List.range 32).map (fun n => tableEntry .crc32 (BitVec.ofNat 8 (64 + n))) =
  [ 0x76DC4190#32, 0x01DB7106#32, 0x98D220BC#32, 0xEFD5102A#32, 0x71B18589#32, 0x06B6B51F#32, 0x9FBFE4A5#32, 0xE8B8D433#32,
    0x7807C9A2#32, 0x0F00F934#32, 0x9609A88E#32, 0xE10E9818#32, 0x7F6A0DBB#32, 0x086D3D2D#32, 0x91646C97#32, 0xE6635C01#32,
    0x6B6B51F4#32, 0x1C6C6162#32, 0x856530D8#32, 0xF262004E#32, 0x6C0695ED#32, 0x1B01A57B#32, 0x8208F4C1#32, 0xF50FC457#32,
    0x65B0D9C6#32, 0x12B7E950#32, 0x8BBEB8EA#32, 0xFCB9887C#32, 0x62DD1DDF#32, 0x15DA2D49#32, 0x8CD37CF3#32, 0xFBD44C65#32 ] := by decide

theorem test_t32_listing_60 :
    (List.range 32).map (fun n => tableEntry .crc32 (BitVec.ofNat 8 (96 + n))) =
  [ 0x4DB26158#32, 0x3AB551CE#32, 0xA3BC0074#32, 0xD4BB30E2#32, 0x4ADFA541#32, 0x3DD895D7#32, 0xA4D1C46D#32, 0xD3D6F4FB#32,
    0x4369E96A#32, 0x346ED9FC#32, 0xAD678846#32, 0xDA60B8D0#32, 0x44042D73#32, 0x33031DE5#32, 0xAA0A4C5F#32, 0xDD0D7CC9#32,
    0x5005713C#32, 0x270241AA#32, 0xBE0B1010#32, 0xC90C2086#32, 0x5768B525#32, 0x206F85B3#32, 0xB966D409#32, 0xCE61E49F#32,
    0x5EDEF90E#32, 0x29D9C998#32, 0xB0D09822#32, 0xC7D7A8B4#32, 0x59B33D17#32, 0x2EB40D81#32, 0xB7BD5C3B#32, 0xC0BA6CAD#32 ] := by decide

theorem test_t32_listing_80 :
    (List.range 32).map (fun n => tableEntry .crc32 (BitVec.ofNat 8 (128 + n))) =
  [ 0xEDB88320#32, 0x9ABFB3B6#32, 0x03B6E20C#32, 0x74B1D29A#32, 0xEAD54739#32, 0x9DD277AF#32, 0x04DB2615#32, 0x73DC1683#32,
    0xE3630B12#32, 0x94643B84#32, 0x0D6D6A3E#32, 0x7A6A5AA8#32, 0xE40ECF0B#32, 0x9309FF9D#32, 0x0A00AE27#32, 0x7D079EB1#32,
    0xF00F9344#32, 0x8708A3D2#32, 0x1E01F268#32, 0x6906C2FE#32, 0xF762575D#32, 0x806567CB#32, 0x196C3671#32, 0x6E6B06E7#32,
    0xFED41B76#32, 0x89D32BE0#32, 0x10DA7A5A#32, 0x67DD4ACC#32, 0xF9B9DF6F#32, 0x8EBEEFF9#32, 0x17B7BE43#32, 0x60B08ED5#32 ] := by decide

theorem test_t32_listing_a0 :
    (List.range 32).map (fun n => tableEntry .crc32 (BitVec.ofNat 8 (160 + n))) =
  [ 0xD6D6A3E8#32, 0xA1D1937E#32, 0x38D8C2C4#32, 0x4FDFF252#32, 0xD1BB67F1#32, 0xA6BC5767#32, 0x3FB506DD#32, 0x48B2364B#32,
    0xD80D2BDA#32, 0xAF0A1B4C#32, 0x36034AF6#32, 0x41047A60#32, 0xDF60EFC3#32, 0xA867DF55#32, 0x316E8EEF#32, 0x4669BE79#32,
    0xCB61B38C#32, 0xBC66831A#32, 0x256FD2A0#32, 0x5268E236#32, 0xCC0C7795#32, 0xBB0B4703#32, 0x220216B9#32, 0x5505262F#32,
    0xC5BA3BBE#32, 0xB2BD0B28#32, 0x2BB45A92#32, 0x5CB36A04#32, 0xC2D7FFA7#32, 0xB5D0CF31#32, 0x2CD99E8B#32, 0x5BDEAE1D#32 ] := by decide

theorem test_t32_listing_c0 :
    (List.range 32).map (fun n => tableEntry .crc32 (BitVec.ofNat 8 (192 + n))) =
  [ 0x9B64C2B0#32, 0xEC63F226#32, 0x756AA39C#32, 0x026D930A#32, 0x9C0906A9#32, 0xEB0E363F#32, 0x72076785#32, 0x05005713#32,
    0x95BF4A82#32, 0xE2B87A14#32, 0x7BB12BAE#32, 0x0CB61B38#32, 0x92D28E9B#32, 0xE5D5BE0D#32, 0x7CDCEFB7#32, 0x0BDBDF21#32,
    0x86D3D2D4#32, 0xF1D4E242#32, 0x68DDB3F8#32, 0x1FDA836E#32, 0x81BE16CD#32, 0xF6B9265B#32, 0x6FB077E1#32, 0x18B74777#32,
    0x88085AE6#32, 0xFF0F6A70#32, 0x66063BCA#32, 0x11010B5C#32, 0x8F659EFF#32, 0xF862AE69#32, 0x616BFFD3#32, 0x166CCF45#32 ] := by decide

theorem test_t32_listing_e0 :
    (List.range 32).map (fun n => tableEntry .crc32 (BitVec.ofNat 8 (224 + n))) =
  [ 0xA00AE278#32, 0xD70DD2EE#32, 0x4E048354#32, 0x3903B3C2#32, 0xA7672661#32, 0xD06016F7#32, 0x4969474D#32, 0x3E6E77DB#32,
    0xAED16A4A#32, 0xD9D65ADC#32, 0x40DF0B66#32, 0x37D83BF0#32, 0xA9BCAE53#32, 0xDEBB9EC5#32, 0x47B2CF7F#32, 0x30B5FFE9#32,
    0xBDBDF21C#32, 0xCABAC28A#32, 0x53B39330#32, 0x24B4A3A6#32, 0xBAD03605#32, 0xCDD70693#32, 0x54DE5729#32, 0x23D967BF#32,
    0xB3667A2E#32, 0xC4614AB8#32, 0x5D681B02#32, 0x2A6F2B94#32, 0xB40BBE37#32, 0xC30C8EA1#32, 0x5A05DF1B#32, 0x2D02EF8D#32 ] := by decide

theorem test_t32c_listing_00 :
    (List.range 32).map (fun n => tableEntry .crc32c (BitVec.ofNat 8 (0 + n))) =
  [ 0x00000000#32, 0xF26B8303#32, 0xE13B70F7#32, 0x1350F3F4#32, 0xC79A971F#32, 0x35F1141C#32, 0x26A1E7E8#32, 0xD4CA64EB#32,
    0x8AD958CF#32, 0x78B2DBCC#32, 0x6BE22838#32, 0x9989AB3B#32, 0x4D43CFD0#32, 0xBF284CD3#32, 0xAC78BF27#32, 0x5E133C24#32,
    0x105EC76F#32, 0xE235446C#32, 0xF165B798#32, 0x030E349B#32, 0xD7C45070#32, 0x25AFD373#32, 0x36FF2087#32, 0xC494A384#32,
    0x9A879FA0#32, 0x68EC1CA3#32, 0x7BBCEF57#32, 0x89D76C54#32, 0x5D1D08BF#32, 0xAF768BBC#32, 0xBC267848#32, 0x4E4DFB4B#32 ] := by decide

theorem test_t32c_listing_20 :
    (List.range 32).map (fun n => tableEntry .crc32c (BitVec.ofNat 8 (32 + n))) =
  [ 0x20BD8EDE#32, 0xD2D60DDD#32, 0xC186FE29#32, 0x33ED7D2A#32, 0xE72719C1#32, 0x154C9AC2#32, 0x061C6936#32, 0xF477EA35#32,
    0xAA64D611#32, 0x580F5512#32, 0x4B5FA6E6#32, 0xB93425E5#32, 0x6DFE410E#32, 0x9F95C20D#32, 0x8CC531F9#32, 0x7EAEB2FA#32,
    0x30E349B1#32, 0xC288CAB2#32, 0xD1D83946#32, 0x23B3BA45#32, 0xF779DEAE#32, 0x05125DAD#32, 0x1642AE59#32, 0xE4292D5A#32,
    0xBA3A117E#32, 0x4851927D#32, 0x5B016189#32, 0xA96AE28A#32, 0x7DA08661#32, 0x8FCB0562#32, 0x9C9BF696#32, 0x6EF07595#32 ] := by decide

theorem test_t32c_listing_40 :
    (List.range 32).map (fun n => tableEntry .crc32c (BitVec.ofNat 8 (64 + n))) =
  [ 0x417B1DBC#32, 0xB3109EBF#32, 0xA0406D4B#32, 0x522BEE48#32, 0x86E18AA3#32, 0x748A09A0#32, 0x67DAFA54#32, 0x95B17957#32,
    0xCBA24573#32, 0x39C9C670#32, 0x2A993584#32, 0xD8F2B687#32, 0x0C38D26C#32, 0xFE53516F#32, 0xED03A29B#32, 0x1F682198#32,
    0x5125DAD3#32, 0xA34E59D0#32, 0xB01EAA24#32, 0x42752927#32, 0x96BF4DCC#32, 0x64D4CECF#32, 0x77843D3B#32, 0x85EFBE38#32,
    0xDBFC821C#32, 0x2997011F#32, 0x3AC7F2EB#32, 0xC8AC71E8#32, 0x1C661503#32, 0xEE0D9600#32, 0xFD5D65F4#32, 0x0F36E6F7#32 ] := by decide

theorem test_t32c_listing_60 :
    (List.range 32).map (fun n => tableEntry .crc32c (BitVec.ofNat 8 (96 + n))) =
  [ 0x61C69362#32, 0x93AD1061#32, 0x80FDE395#32, 0x72966096#32, 0xA65C047D#32, 0x5437877E#32, 0x4767748A#32, 0xB50CF789#32,
    0xEB1FCBAD#32, 0x197448AE#32, 0x0A24BB5A#32, 0xF84F3859#32, 0x2C855CB2#32, 0xDEEEDFB1#32, 0xCDBE2C45#32, 0x3FD5AF46#32,
    0x7198540D#32, 0x83F3D70E#32, 0x90A324FA#32, 0x62C8A7F9#32, 0xB602C312#32, 0x44694011#32, 0x5739B3E5#32, 0xA55230E6#32,
    0xFB410CC2#32, 0x092A8FC1#32, 0x1A7A7C35#32, 0xE811FF36#32, 0x3CDB9BDD#32, 0xCEB018DE#32, 0xDDE0EB2A#32, 0x2F8B6829#32 ] := by decide

theorem test_t32c_listing_80 :
    (List.range 32).map (fun n => tableEntry .crc32c (BitVec.ofNat 8 (128 + n))) =
  [ 0x82F63B78#32, 0x709DB87B#32, 0x63CD4B8F#32, 0x91A6C88C#32, 0x456CAC67#32, 0xB7072F64#32, 0xA457DC90#32, 0x563C5F93#32,
    0x082F63B7#32, 0xFA44E0B4#32, 0xE9141340#32, 0x1B7F9043#32, 0xCFB5F4A8#32, 0x3DDE77AB#32, 0x2E8E845F#32, 0xDCE5075C#32,
    0x92A8FC17#32, 0x60C37F14#32, 0x73938CE0#32, 0x81F80FE3#32, 0x55326B08#32, 0xA759E80B#32, 0xB4091BFF#32, 0x466298FC#32,
    0x1871A4D8#32, 0xEA1A27DB#32, 0xF94AD42F#32, 0x0B21572C#32, 0xDFEB33C7#32, 0x2D80B0C4#32, 0x3ED04330#32, 0xCCBBC033#32 ] := by decide

theorem test_t32c_listing_a0 :
    (List.range 32).map (fun n => tableEntry .crc32c (BitVec.ofNat 8 (160 + n))) =
  [ 0xA24BB5A6#32, 0x502036A5#32, 0x4370C551#32, 0xB11B4652#32, 0x65D122B9#32, 0x97BAA1BA#32, 0x84EA524E#32, 0x7681D14D#32,
    0x2892ED69#32, 0xDAF96E6A#32, 0xC9A99D9E#32, 0x3BC21E9D#32, 0xEF087A76#32, 0x1D63F975#32, 0x0E330A81#32, 0xFC588982#32,
    0xB21572C9#32, 0x407EF1CA#32, 0x532E023E#32, 0xA145813D#32, 0x758FE5D6#32, 0x87E466D5#32, 0x94B49521#32, 0x66DF1622#32,
    0x38CC2A06#32, 0xCAA7A905#32, 0xD9F75AF1#32, 0x2B9CD9F2#32, 0xFF56BD19#32, 0x0D3D3E1A#32, 0x1E6DCDEE#32, 0xEC064EED#32 ] := by decide

theorem test_t32c_listing_c0 :
    (List.range 32).map (fun n => tableEntry .crc32c (BitVec.ofNat 8 (192 + n))) =
  [ 0xC38D26C4#32, 0x31E6A5C7#32, 0x22B65633#32, 0xD0DDD530#32, 0x0417B1DB#32, 0xF67C32D8#32, 0xE52CC12C#32, 0x1747422F#32,
    0x49547E0B#32, 0xBB3FFD08#32, 0xA86F0EFC#32, 0x5A048DFF#32, 0x8ECEE914#32, 0x7CA56A17#32, 0x6FF599E3#32, 0x9D9E1AE0#32,
    0xD3D3E1AB#32, 0x21B862A8#32, 0x32E8915C#32, 0xC083125F#32, 0x144976B4#32, 0xE622F5B7#32, 0xF5720643#32, 0x07198540#32,
    0x590AB964#32, 0xAB613A67#32, 0xB831C993#32, 0x4A5A4A90#32, 0x9E902E7B#32, 0x6CFBAD78#32, 0x7FAB5E8C#32, 0x8DC0DD8F#32 ] := by decide

theorem test_t32c_listing_e0 :
    (List.range 32).map (fun n => tableEntry .crc32c (BitVec.ofNat 8 (224 + n))) =
  [ 0xE330A81A#32, 0x115B2B19#32, 0x020BD8ED#32, 0xF0605BEE#32, 0x24AA3F05#32, 0xD6C1BC06#32, 0xC5914FF2#32, 0x37FACCF1#32,
    0x69E9F0D5#32, 0x9B8273D6#32, 0x88D28022#32, 0x7AB90321#32, 0xAE7367CA#32, 0x5C18E4C9#32, 0x4F48173D#32, 0xBD23943E#32,
    0xF36E6F75#32, 0x0105EC76#32, 0x12551F82#32, 0xE03E9C81#32, 0x34F4F86A#32, 0xC69F7B69#32, 0xD5CF889D#32, 0x27A40B9E#32,
    0x79B737BA#32, 0x8BDCB4B9#32, 0x988C474D#32, 0x6AE7C44E#32, 0xBE2DA0A5#32, 0x4C4623A6#32, 0x5F16D052#32, 0xAD7D5351#32 ] := by decide

/-! ## Single steps on a small state -/

/-- After reset, with "12" at 0x1000, the buffer registers on it, and context 0 a CRC32C accumulator
that holds 5. -/
def demo : State :=
  { State.reset with
    mem := [(0x1000, 0x31#8), (0x1001, 0x32#8)]
    addrLo := 0x1000#32
    len := 2#32
    ctxs := [⟨true, .crc32c, 5#32⟩, Context.reset, Context.reset, Context.reset] }

/-- `demo` with a CRC32 command in flight. -/
def busyDemo : State := startCommand (latchFor demo .crc32 0 .crc32 0xFFFFFFFF#32) demo

/-- The state of an outcome, or `demo`. -/
def after : Host.Outcome State Fault Refusal → State
  | .next t => t
  | .fault _ => demo
  | .refused _ => demo

/-- The register word of STATUS after an outcome. -/
def statusAfter (o : Host.Outcome State Fault Refusal) : Word := (after o).status.word

/-- R80: issue sets BUSY and starts the engine at ~PREV; the first block step gives V6. -/
theorem test_crc32_first_byte :
    (after (exec .crc32 demo)).op.S = 0xFFFFFFFF#32 ∧
    (blockStep (after (exec .crc32 demo))).op.S = 0x7C231048#32 := by decide
/-- V84 shape: LEN = 0 gives RESULT = PREV on the first block step. -/
theorem test_crc32c_empty :
    (blockStep (after (exec .crc32c { demo with len := 0#32, prev := 0x12345678#32 }))).result
      = 0x12345678#32 := by decide
/-- V8. -/
theorem test_crc32c_first_byte : (blockStep (after (exec .crc32c demo))).op.S = 0x6F0A661C#32 := by decide
/-- V61: STATUS 0x2 and ctx[1] = {1, 0, 0}. -/
theorem test_newCrc32 :
    ctxAt (blockStep (after (exec (.newCrc32 1) demo))) 1 = ⟨true, .crc32, 0#32⟩ ∧
    (blockStep (after (exec (.newCrc32 1) demo))).status.word = 0x00000002#32 := by decide
/-- V79: NEW on a valid context. -/
theorem test_newCrc32c_inUse : statusAfter (exec (.newCrc32c 0) demo) = 0x0000040A#32 := by decide
/-- The example of R89, on context 2. -/
theorem test_newCrc32c :
    ctxAt (blockStep (after (exec (.newCrc32c 2) demo))) 2 = ⟨true, .crc32c, 0#32⟩ := by decide
/-- R90: the algorithm and the seed are the context's own. -/
theorem test_update_latches :
    (after (exec (.update 0) demo)).op.alg = .crc32c ∧
    (after (exec (.update 0) demo)).op.S = 0xFFFFFFFA#32 := by decide
/-- V78. -/
theorem test_update_free : statusAfter (exec (.update 1) demo) = 0x0000030A#32 := by decide
/-- R91: RESULT is acc itself. -/
theorem test_checksum : (blockStep (after (exec (.checksum 0) demo))).result = 5#32 := by decide
/-- V85: CTX_INVALID, LEN not checked. -/
theorem test_checksum_free :
    statusAfter (exec (.checksum 1) { demo with len := 0x80000000#32 }) = 0x0000030A#32 := by decide
/-- R92. -/
theorem test_drop : (ctxAt (blockStep (after (exec (.drop 0) demo))) 0).valid = false := by decide
/-- V69: a double DROP. -/
theorem test_drop_free : statusAfter (exec (.drop 1) demo) = 0x0000030A#32 := by decide

/-- V76, V77: BAD_CTX from k = N_CTX on. -/
theorem test_badCtx :
    statusAfter (writeCmd 0x00000410#32 demo) = 0x0000020A#32 ∧
    statusAfter (writeCmd 0x0000FF30#32 demo) = 0x0000020A#32 := by decide
/-- V80 to V83: LEN_RANGE before ADDR_RANGE; the exact sum 2^32 is accepted. -/
theorem test_ranges :
    statusAfter (writeCmd 1#32 { demo with len := 0x80000000#32 }) = 0x0000050A#32 ∧
    statusAfter (writeCmd 1#32 { demo with len := 0xFFFFFFFF#32, addrLo := 0xFFFFFFFF#32 }) = 0x0000050A#32 ∧
    statusAfter (writeCmd 1#32 { demo with len := 9#32, addrLo := 0xFFFFFFF8#32 }) = 0x0000060A#32 ∧
    statusAfter (writeCmd 1#32 { demo with len := 9#32, addrLo := 0xFFFFFFF7#32 }) = 0x00000001#32 := by decide
/-- V87: the 64-bit address is {ADDR_HI, ADDR_LO}. -/
theorem test_addr64 :
    statusAfter (writeCmd 1#32 { demo with
      params := { Params.default with addrWidth := .w64 }
      addrHi := 0xFFFFFFFF#32, addrLo := 0xFFFFFFF8#32, len := 9#32 }) = 0x0000060A#32 := by decide
/-- V88: the refused byte ends the command with STATUS 0x70A. -/
theorem test_busError :
    (blockStep { busyDemo with op := { busyDemo.op with idx := 2#32, len := 3#32 } }).status.word
      = 0x0000070A#32 := by decide
/-- V89: a CMD write while BUSY. -/
theorem test_overrun : statusAfter (writeCmd 0x00000003#32 busyDemo) = 0x00000005#32 := by decide
/-- V71: ILLEGAL_CMD is code 1. -/
theorem test_illegal_status : statusAfter (writeCmd 0x00000000#32 demo) = 0x0000010A#32 := by decide
/-- R15: the registers at their offsets in the window. -/
theorem test_register_map :
    [0x00, 0x04, 0x08, 0x0C, 0x10, 0x14, 0x18, 0x1C, 0x20].map regAt =
      [.cmd, .status, .ctrl, .cap, .prev, .addrLo, .addrHi, .len, .result] := by decide
/-- V90, V91. -/
theorem test_cap :
    capWord Params.default = 0x00010004#32 ∧ capWord ⟨255, .w64, false, 0⟩ = 0x01000100#32 := by decide
/-- V92, V93. -/
theorem test_ctrl :
    readReg .ctrl (writeCtrl 0xFFFFFFFF#32 demo) = 0x00000001#32 ∧
    readReg .ctrl (writeCtrl 0xFFFFFFFF#32 { demo with params := ⟨3, .w32, false, 0⟩ }) = 0#32 := by decide
/-- V97, V98. -/
theorem test_status_w1c :
    ((Status.mk false true true .ctxInvalid).write 0x00000004#32).word = 0x0000030A#32 ∧
    ((Status.mk false true false .ctxInvalid).write 0x00000002#32).word = 0x00000308#32 := by decide
/-- V102, V104: reset while BUSY with OVERRUN = 1. -/
theorem test_reset_input :
    (resetBlock { busyDemo with status := ⟨true, false, true, .noError⟩, result := 7#32 }).status.word = 0#32 ∧
    (resetBlock { busyDemo with result := 7#32 }).result = 0#32 := by decide
/-- R45: a halfword access, and a misaligned one. -/
theorem test_bad_access :
    targetOf Params.default 0x40000010 .half = .bad ∧ targetOf Params.default 0x40000012 .word = .bad ∧
    targetOf Params.default 0x3FFFFFFC .dword = .bad ∧ targetOf Params.default 0x40000100 .word = .outside := by
  decide
/-- R60: the expansion of `call.crc32` on a 32-bit part, with the (offset, data) pairs of P1. -/
theorem test_callCrc32 :
    callCrc32Stmt Params.default 0#32 0x1000#64 9#32 =
      [.wr 0x40000010 .word 0#32, .wr 0x40000014 .word 0x1000#32, .wr 0x4000001C .word 9#32,
       .wr 0x40000000 .word 1#32, .wait, .rd 0x40000020 .word] := by decide
/-- R58. -/
theorem test_asm : (Instr.newCrc32 3).asm = "new.crc32 3" := by decide
/-- The first step after reset with a command word placed issues it. -/
theorem test_step_runs_placed_word :
    (after (step (State.reset.withFetchWord 32 0x00000110))).status.word = 0x00000001#32 := by decide
theorem test_reset_memory_wf : Memory.wf State.reset.mem = true := by decide

/-! ## Witnesses: every statement with hypotheses is about something -/

theorem witness_DecodeOfEncode : (Instr.drop 255).wellFormed = true := by decide
theorem witness_EncodeOfDecode : decode 0x0000FF20#32 = .command (.update 255) := by decide
theorem witness_EveryWord_row : (opcodeRows.headD ⟨.drop, 0, 0⟩).hits 0x00000001#32 = true := by decide
theorem witness_illegalWord :
    illegalWord 0x00000000#32 ∧ illegalWord 0x00010001#32 ∧ illegalWord 0x00000101#32 := by
  unfold illegalWord
  decide
theorem witness_idle : demo.status.busy = false ∧ demo.op.active = false := by decide
/-- IllegalWordsEndAtIssue, third clause, at k = N_CTX. -/
theorem witness_badCtx :
    rsvField 0x00000410#32 = 0#16 ∧ opcField 0x00000410#32 ∈ [0x10#8, 0x11#8, 0x20#8, 0x30#8, 0x40#8] ∧
    demo.params.nCtx ≤ (ctxField 0x00000410#32).toNat := by decide
theorem witness_IssueRefines :
    demo.op.active = demo.status.busy ∧ bufferHasSideEffects demo = false ∧
    busyDemo.op.active = busyDemo.status.busy ∧ bufferHasSideEffects busyDemo = false := by decide
/-- OverrunDropsTheWord: a BUSY state, and a step that clears OVERRUN. -/
theorem witness_Overrun :
    busyDemo.status.busy = true ∧
    ∃ t, step { demo with
        status := ⟨false, false, true, .noError⟩, host := [wrReg demo.params .status 4#32] } = .next t ∧
      t.status.overrun = false := ⟨by decide, _, rfl, by decide⟩
theorem witness_ErrorsArePrecise :
    checkWord 0x00000000#32 demo ≠ .noError ∧ checkWord 0x00000130#32 demo ≠ .noError ∧
    busyDemo.op.active = true ∧ busyDemo.op.opc.isData = true ∧
    busyDemo.op.idx.toNat < busyDemo.op.len.toNat ∧
    Memory.read ({ busyDemo with mem := [] } : State).mem (busyDemo.op.addr.toNat + busyDemo.op.idx.toNat) = none := by
  decide
/-- CommandsStopOnlyOnSideEffects: the refusal happens. -/
theorem witness_SideEffects :
    exec .crc32 { demo with sideEffects := [(0x1001, 1)] } = .refused .readSideEffects := rfl
theorem witness_IssueFrame : ∃ t, exec (.drop 0) demo = .next t := ⟨_, rfl⟩
/-- BlockStepFollowsPseudocode: a byte, a refused byte, and a completion. -/
theorem witness_BlockStep :
    memRead busyDemo (busyDemo.op.addr.toNat + busyDemo.op.idx.toNat) = some 0x31#8 ∧
    memRead { busyDemo with mem := [] } (busyDemo.op.addr.toNat + busyDemo.op.idx.toNat) = none ∧
    ¬ (busyDemo.op.opc.isData = true ∧ ((busyDemo.setLen 0#32).op.consume 0#8 |>.consume 0#8).idx.toNat
        < busyDemo.op.len.toNat) := by decide
theorem witness_WaitEnds :
    busyDemo.op.active = true ∧ busyDemo.status.busy = true ∧
    ({ busyDemo with host := [.wait] } : State).host = .wait :: [] := by decide
theorem witness_RacedRead :
    olderValues busyDemo.raced 0x1000 = [] ∧ memRead busyDemo 0x1000 = some 0x31#8 ∧
    inFlightBuffer busyDemo 0x1001 = true ∧ inFlightBuffer busyDemo 0x1002 = false := by decide
/-- The buffer of `demo`, for CRC32, CRC32C and UPDATE. -/
theorem witness_BufferReady : BufferReady demo [0x31#8, 0x32#8] :=
  ⟨by decide, by decide, by decide, by decide, by decide⟩
/-- An empty buffer at the last address. -/
theorem witness_BufferReady_empty : BufferReady { demo with addrLo := 0xFFFFFFFF#32, len := 0#32 } [] :=
  ⟨by decide, by decide, by decide, by decide, by decide⟩
/-- A buffer that ends exactly at 2^ADDR_WIDTH. -/
theorem witness_BufferReady_top :
    BufferReady { demo with mem := [(0xFFFFFFFF, 7#8)], addrLo := 0xFFFFFFFF#32, len := 1#32 } [7#8] :=
  ⟨by decide, by decide, by decide, by decide, by decide⟩
/-- NEW_CRC32 and NEW_CRC32C at the last context; UPDATE, CHECKSUM and DROP at the first. -/
theorem witness_contexts :
    demo.status.busy = false ∧ demo.ctxs.length = demo.params.nCtx ∧ 3 < demo.params.nCtx ∧
    (ctxAt demo 3).valid = false ∧ 0 < demo.params.nCtx ∧ (ctxAt demo 0).valid = true := by decide
/-- BusErrorEndsUncommitted: LEN = 3, and the third byte is refused. -/
theorem witness_BusError :
    ({ demo with len := 3#32 } : State).len.toNat < 0x80000000 ∧
    (addrOperand { demo with len := 3#32 }).toNat + 3 ≤ demo.params.addrLimit ∧
    bufferHasSideEffects { demo with len := 3#32 } = false ∧
    Memory.bytes? demo.mem (addrOperand demo).toNat 2 = some [0x31#8, 0x32#8] ∧
    Memory.read demo.mem ((addrOperand demo).toNat + 2) = none := by decide
/-- AccumulatorContinues: two chunks of one byte and an empty one. -/
theorem witness_Chunks :
    ChunksReady demo [(0x1000#64, 1#32), (0x1001#64, 1#32), (0x2000#64, 0#32)] [[0x31#8], [0x32#8], []] :=
  ⟨⟨by decide, by decide, by decide, by decide, by decide⟩,
   ⟨by decide, by decide, by decide, by decide, by decide⟩,
   ⟨by decide, by decide, by decide, by decide, by decide⟩, trivial⟩
theorem witness_Independent :
    (Instr.drop 0).ctx ≠ 1 ∧ (∃ t, exec (.drop 0) demo = .next t) ∧
    Opcode.usesCtx busyDemo.op.opc = false ∧
    ({ busyDemo with op := { busyDemo.op with opc := .update } } : State).op.k.toNat ≠ 1 :=
  ⟨by decide, ⟨_, rfl⟩, by decide, by decide⟩
/-- ContextsChangeOnlyByTheirCommands: the completion of a NEW changes its context. -/
theorem witness_ContextChange :
    ∃ t, step (after (exec (.newCrc32 1) demo)) = .next t ∧
      ctxAt t 1 ≠ ctxAt (after (exec (.newCrc32 1) demo)) 1 := ⟨_, rfl, by decide⟩
/-- ResultChangesOnlyByCompletion: the completion of a CHECKSUM changes RESULT. -/
theorem witness_ResultChange :
    ∃ t, step (after (exec (.checksum 0) demo)) = .next t ∧
      t.result ≠ (after (exec (.checksum 0) demo)).result := ⟨_, rfl, by decide⟩
/-- BlockWritesNoMemory: a host store changes a byte. -/
theorem witness_Store :
    ∃ t, step { demo with host := [.store 0x1000 9#8] } = .next t ∧
      Memory.read t.mem 0x1000 ≠ Memory.read demo.mem 0x1000 := ⟨_, rfl, by decide⟩
theorem witness_addrWidths :
    demo.params.addrWidth = .w32 ∧
    ({ demo with params := ⟨3, .w64, false, 0⟩ } : State).params.addrWidth = .w64 := by decide
theorem witness_Ctrl :
    demo.params.hasSerial = true ∧ ({ demo with params := ⟨3, .w32, false, 0⟩ } : State).params.hasSerial = false ∧
    ∃ t, exec .crc32 { demo with forceSerial := true } = .next t ∧ t.status.busy = true :=
  ⟨by decide, by decide, _, rfl, by decide⟩
theorem witness_StatusWrite : busyDemo.status.busy = true ∧ busyDemo.status.done = false := by decide
/-- ReservedSpaceReadsZero and OnlyAlignedWordAccessesReachRegisters at the last word of the window. -/
theorem witness_window :
    targetOf demo.params (demo.params.regBase + 0xFC) .word = .reg .reserved ∧
    targetOf demo.params (demo.params.regBase + 0x24) .word = .reg .reserved ∧
    meetsWindow demo.params (demo.params.regBase + 0xFF) AccessWidth.byte.bytes = true ∧
    meetsWindow demo.params (demo.params.regBase + 0xFE) AccessWidth.word.bytes = true := by decide +kernel
theorem witness_Reset :
    (∃ p, State.reset = State.resetWith p) ∧ (∃ t, resetBlock busyDemo = resetBlock t) ∧
    3 < State.reset.params.nCtx := ⟨⟨_, rfl⟩, ⟨_, rfl⟩, by decide⟩
theorem witness_ResetInput : ({ busyDemo with host := [.reset] } : State).host = .reset :: [] := by decide
theorem witness_SliceStep : 4 ≤ [1#8, 2#8, 3#8, 4#8].length := by decide
theorem witness_EveryEngine :
    (∀ m ∈ [EngineMove.fold8, .table], m.admitted ⟨.eight, .one⟩ .crc32c false = true) ∧
    ∃ S, engineRun .crc32c [.fold8, .table] 0#32 [1#8, 2#8, 3#8, 4#8, 5#8, 6#8, 7#8, 8#8, 9#8] = some S :=
  ⟨by decide, _, rfl⟩
/-- WordFoldIsByteSteps, and the big-endian words that differ (V13, V14). -/
theorem witness_WordFold :
    [0x31#8, 0x32#8, 0x33#8, 0x34#8].length = 4 ∧ (List.replicate 8 0x31#8).length = 8 := by decide
/-- CrcIsAffine, on the bytes of V59. -/
theorem witness_CrcIsAffine :
    [0x61#8, 0x62#8, 0x63#8].length = [0x78#8, 0x79#8, 0x7A#8].length ∧
    [0x78#8, 0x79#8, 0x7A#8].length = [0x31#8, 0x32#8, 0x33#8].length ∧
    crc .crc32 [0x28#8, 0x29#8, 0x2A#8] 0#32 = 0x56E29877#32 := by decide
theorem witness_CommandEnds : busyDemo.op.active = true := by decide
theorem witness_Inv_reset : State.reset.Inv where
  ctxCount := by decide
  activeIsBusy := by decide
  busyNotDone := by decide
  busyNoError := by decide
  memCanonical := by decide
  memInSpace := by decide
  idxInBuffer := by decide
  lenAdmitted := by decide
  addrAdmitted := by decide
  ctxIndex := by decide
  ctxState := by decide
  algOfCtx := by decide
  serialBuilt := by decide
/-- StepKeepsTheInvariant: a state with a command in flight meets it too, and has a next state. -/
theorem witness_Inv_busy : busyDemo.Inv where
  ctxCount := by decide
  activeIsBusy := by decide
  busyNotDone := by decide
  busyNoError := by decide
  memCanonical := by decide
  memInSpace := by decide
  idxInBuffer := by decide
  lenAdmitted := by decide
  addrAdmitted := by decide
  ctxIndex := by decide
  ctxState := by decide
  algOfCtx := by decide
  serialBuilt := by decide
theorem witness_step_busy : ∃ t, step busyDemo = .next t := ⟨_, rfl⟩
theorem witness_BothOrders :
    ({ busyDemo with host := [rdReg demo.params .status] } : State).op.active = true ∧
    hostReady { busyDemo with host := [rdReg demo.params .status] } = true := by decide
theorem witness_StepRuns :
    ({ demo with host := [wrReg demo.params .cmd 1#32] } : State).host = wrReg demo.params .cmd 1#32 :: [] ∧
    decode 1#32 = .command .crc32 ∧ demo.op.active = false ∧
    ({ busyDemo with host := [wrReg demo.params .cmd 1#32], sched := [1] } : State).sched = (0 + 1) :: [] ∧
    decode (BitVec.ofNat 32 (0x340 % 2 ^ 32)) = .command (.drop 3) := by decide
theorem witness_NoOverrun : (∃ t, step busyDemo = .next t) ∧ noOverrunHazard busyDemo ∧
    busyDemo.status.overrun = false :=
  ⟨⟨_, rfl⟩, (fun _ _ _ _ _ h => nomatch h), by decide⟩
theorem witness_NoRace : (∃ t, step busyDemo = .next t) ∧ noBufferHazard busyDemo ∧ busyDemo.raced = [] :=
  ⟨⟨_, rfl⟩, (fun _ _ _ h => nomatch h), by decide⟩

/-- ErrorCodeStaysUntilTheNextIssue: a state with ERRCODE = 3 meets the invariant, and a CMD write from it
changes the code. -/
def erredDemo : State :=
  { State.reset with
    status := ⟨false, true, false, .ctxInvalid⟩, host := [wrReg State.reset.params .cmd 1#32] }
theorem witness_Inv_erred : erredDemo.Inv where
  ctxCount := by decide
  activeIsBusy := by decide
  busyNotDone := by decide
  busyNoError := by decide
  memCanonical := by decide
  memInSpace := by decide
  idxInBuffer := by decide
  lenAdmitted := by decide
  addrAdmitted := by decide
  ctxIndex := by decide
  ctxState := by decide
  algOfCtx := by decide
  serialBuilt := by decide
theorem witness_ErrorCode :
    ∃ t, step erredDemo = .next t ∧ erredDemo.status.errcode ≠ .noError ∧
      t.status.errcode ≠ erredDemo.status.errcode := ⟨_, rfl, by decide, by decide⟩
theorem witness_runEnded : runEnded State.reset := ⟨rfl, rfl⟩

end Sys2Proof.Tests
end

