-- ==== Sys2Proof/Proofs/Scope.lean ====
section
/-! PROOF. How a step spends the script of host moves where host and block can both move (R12, R106). -/

namespace Sys2Proof.Machine

@[simp] theorem State.setSched_setSched (s : State) (q r : List Nat) :
    (s.setSched q).setSched r = s.setSched r := rfl

/-- Where host and block can both move, the filled script decides between them. -/
theorem step_of_contending {s : State} (ha : s.op.active = true) (hr : hostReady s = true) :
    step s = contend (fillSched s) := by
  simp [step, advance, ha, hr]

theorem fillSched_of_nil {s : State} (h : s.sched = []) :
    fillSched s = (s.setSched [Config.hostBurst s.draws]).setDraws (s.draws + 1) := by
  simp [fillSched, h]

theorem fillSched_of_cons {s : State} {n : Nat} {q : List Nat} (h : s.sched = n :: q) :
    fillSched s = s := by
  simp [fillSched, h]

theorem contend_of_zero {s : State} {q : List Nat} (h : s.sched = 0 :: q) :
    contend s = .next (blockStep (s.setSched q)) := by
  simp [contend, h]

theorem contend_of_succ {s : State} {n : Nat} {q : List Nat} (h : s.sched = (n + 1) :: q) :
    contend s = hostStep (s.setSched (n :: q)) := by
  simp [contend, h]

/-- A script entry 0 gives the move to the block. -/
theorem step_of_sched_zero {s : State} {q : List Nat} (ha : s.op.active = true)
    (hr : hostReady s = true) (h : s.sched = 0 :: q) :
    step s = .next (blockStep (s.setSched q)) := by
  rw [step_of_contending ha hr, fillSched_of_cons h, contend_of_zero h]

/-- A script entry `n + 1` gives the move to the host, and leaves it `n` more. -/
theorem step_of_sched_succ {s : State} {n : Nat} {q : List Nat} (ha : s.op.active = true)
    (hr : hostReady s = true) (h : s.sched = (n + 1) :: q) :
    step s = hostStep (s.setSched (n :: q)) := by
  rw [step_of_contending ha hr, fillSched_of_cons h, contend_of_succ h]

/-- Where the script has run out, the step goes on with the next free value as the only entry. -/
theorem step_of_sched_nil {s : State} (ha : s.op.active = true) (hr : hostReady s = true)
    (h : s.sched = []) :
    step s = contend ((s.setSched [Config.hostBurst s.draws]).setDraws (s.draws + 1)) := by
  rw [step_of_contending ha hr, fillSched_of_nil h]

end Sys2Proof.Machine

open Sys2Proof Sys2Proof.Machine

/-- Settles O52: a script entry in front gives the move to the block or the host; where there is none,
the free value `hostBurst` drawn for it is the witness. -/
theorem bothOrdersAreAdmitted : Obligations.BothOrdersAreAdmitted := by
  intro s n q ha hr
  refine ⟨step_of_sched_zero ha hr rfl, step_of_sched_succ ha hr rfl, Config.hostBurst s.draws, ?_⟩
  rw [step_of_sched_nil (s := s.setSched []) ha hr rfl]
  simp only [State.setSched_draws, State.setSched_setSched]
  cases Config.hostBurst s.draws with
  | zero => exact contend_of_zero rfl
  | succ k => exact contend_of_succ rfl

end

section
/-! PROOF. What an issue, a host access and a block step can do, and which of them write RESULT (R21, R61 to R64, R115). -/

namespace Sys2Proof.Machine

/-! ## The issue of a command, inverted -/

/-- The latch `o` is one that an issue on `s` may fill: its buffer and its context passed the checks
of R61, and its algorithm and engine choice are those of R62. -/
structure Latch.Admitted (s : State) (o : Latch) : Prop where
  active    : o.active = true
  idx       : o.idx = 0#32
  serial    : o.serial = forceSerialBit s
  len       : o.opc.isData = true → o.len.toNat < 0x80000000
  addr      : o.opc.isData = true → o.addr.toNat + o.len.toNat ≤ s.params.addrLimit
  ctxIndex  : Opcode.usesCtx o.opc = true → o.k.toNat < s.params.nCtx
  ctxState  : Opcode.usesCtx o.opc = true → (ctxAt s o.k.toNat).valid = Opcode.needsLive o.opc
  algOfCtx  : o.opc = .update → o.alg = (ctxAt s o.k.toNat).alg

/-- What the issue of a word can make of `s` (R62): the word is dropped, ends with an error, or
starts. -/
inductive Issued (s : State) : State → Prop
  | dropped (hbusy : s.status.busy = true) : Issued s (s.setStatus s.status.overran)
  | refused (e : ErrCode) (hidle : s.status.busy = false) (he : e ≠ .noError) :
      Issued s (raiseError e s)
  | started (o : Latch) (n : Nat) (hidle : s.status.busy = false) (ho : o.Admitted s) :
      Issued s ((startCommand o s).setDraws n)

/-- The latch of a command whose checks passed is admitted. -/
theorem latchFor_admitted {s : State} {o : Opcode} {k : Nat} {a : Alg} {S : Word}
    (hdata : o.isData = true → checkLen s = .noError ∧ checkAddr s = .noError)
    (hctx : Opcode.usesCtx o = true → k < s.params.nCtx ∧ (ctxAt s k).valid = Opcode.needsLive o)
    (halg : o = .update → a = (ctxAt s k).alg) : (latchFor s o k a S).Admitted s := by
  have hk : Opcode.usesCtx o = true → (latchFor s o k a S).k.toNat = k := fun hu =>
    latchFor_k s o k a S (lt_of_lt_of_le (hctx hu).1 (nCtx_le s.params))
  refine ⟨rfl, rfl, rfl, fun hd => (checkLen_iff s).1 (hdata hd).1,
    fun hd => (checkAddr_iff s).1 (hdata hd).2, fun hu => ?_, fun hu => ?_, fun ho => ?_⟩
  · exact (hk hu).symm ▸ (hctx hu).1
  · exact (hk hu).symm ▸ (hctx hu).2
  · have hu : Opcode.usesCtx o = true := congrArg Opcode.usesCtx ho
    exact (hk hu).symm ▸ halg ho

theorem acceptCommand_issued {e : ErrCode} {start : State → State} {s : State}
    (hstart : s.status.busy = false → e = .noError → Issued s (start s)) :
    Issued s (acceptCommand e start s) := by
  rcases acceptCommand_cases e start s with ⟨hb, h⟩ | ⟨hb, he, h⟩ | ⟨hb, he, h⟩ <;> rw [h]
  · exact .dropped hb
  · exact hstart hb he
  · exact .refused e hb he

theorem issueContext_issued {e : ErrCode} {o : Opcode} {k : Nat} {s t : State}
    (hok : e = .noError → ∀ a S, (latchFor s o k a S).Admitted s)
    (h : issueContext e o k s = .next t) : Issued s t := by
  cases h
  exact acceptCommand_issued fun hb he => .started _ _ hb (hok he _ _)

theorem issueData_issued {e : ErrCode} {o : Opcode} {k : Nat} {a : Alg} {S : Word} {s t : State}
    (hok : e = .noError → (latchFor s o k a S).Admitted s)
    (h : issueData e o k a S s = .next t) : Issued s t := by
  rcases issueData_cases e o k a S s with ⟨_, _, _, hr⟩ | ⟨_, hn⟩
  · cases hr.symm.trans h
  · cases hn.symm.trans h
    exact acceptCommand_issued fun hb he => .started _ s.draws hb (hok he)

/-- Everything the issue of a command can do (R61, R62). -/
theorem exec_issued {i : Instr} {s t : State} (h : exec i s = .next t) : Issued s t := by
  cases i with
  | crc32 | crc32c =>
    refine issueData_issued (fun he => ?_) h
    obtain ⟨hl, ha⟩ : checkLen s = .noError ∧ checkAddr s = .noError := by
      simpa using (firstError_eq_noError _).1 he
    exact latchFor_admitted (fun _ => ⟨hl, ha⟩) nofun nofun
  | newCrc32 k | newCrc32c k =>
    refine issueContext_issued (fun he a S => ?_) h
    obtain ⟨hi, hf⟩ : checkIndex k s = .noError ∧ checkFree k s = .noError := by
      simpa using (firstError_eq_noError _).1 he
    exact latchFor_admitted nofun (fun _ => ⟨(checkIndex_iff k s).1 hi, (checkFree_iff k s).1 hf⟩) nofun
  | update k =>
    refine issueData_issued (fun he => ?_) h
    obtain ⟨hi, hv, hl, ha⟩ : checkIndex k s = .noError ∧ checkLive k s = .noError ∧
        checkLen s = .noError ∧ checkAddr s = .noError := by
      simpa using (firstError_eq_noError _).1 he
    exact latchFor_admitted (fun _ => ⟨hl, ha⟩)
      (fun _ => ⟨(checkIndex_iff k s).1 hi, (checkLive_iff k s).1 hv⟩) fun _ => rfl
  | checksum k | drop k =>
    refine issueContext_issued (fun he a S => ?_) h
    obtain ⟨hi, hv⟩ : checkIndex k s = .noError ∧ checkLive k s = .noError := by
      simpa using (firstError_eq_noError _).1 he
    exact latchFor_admitted nofun (fun _ => ⟨(checkIndex_iff k s).1 hi, (checkLive_iff k s).1 hv⟩) nofun

/-- Everything a host write to CMD can do, whatever the word (R62). -/
theorem writeCmd_issued {w : Word} {s t : State} (h : writeCmd w s = .next t) : Issued s t := by
  unfold writeCmd at h
  split at h
  · exact exec_issued h
  · cases h
    exact acceptCommand_issued nofun

/-- Issue writes no RESULT. -/
theorem Issued.result {s t : State} (h : Issued s t) : t.result = s.result := by
  cases h <;> rfl

/-! ## A host access, inverted -/

/-- `t` has the parameters, RESULT, contexts, latch and memory of `s`, and its STATUS but for OVERRUN
and for a DONE that may be cleared. -/
structure CommandKept (s t : State) : Prop where
  params  : t.params = s.params
  result  : t.result = s.result
  ctxs    : t.ctxs = s.ctxs
  op      : t.op = s.op
  mem     : t.mem = s.mem
  busy    : t.status.busy = s.status.busy
  done    : t.status.done = true → s.status.done = true
  errcode : t.status.errcode = s.status.errcode

/-- A change of other fields than these keeps the command. -/
theorem CommandKept.of_unchanged {s t : State} (hp : t.params = s.params := by rfl)
    (hr : t.result = s.result := by rfl) (hc : t.ctxs = s.ctxs := by rfl) (ho : t.op = s.op := by rfl)
    (hm : t.mem = s.mem := by rfl) (hs : t.status = s.status := by rfl) : CommandKept s t :=
  ⟨hp, hr, hc, ho, hm, congrArg Status.busy hs, fun h => congrArg Status.done hs ▸ h,
    congrArg Status.errcode hs⟩

theorem Status.done_of_write {v : Word} {st : Status} (h : (st.write v).done = true) :
    st.done = true := by
  simp only [Status.write] at h
  split at h
  · cases h
  · exact h

/-- A write to a register other than CMD does not reach the command in flight (R29, R30, R31). -/
theorem writeReg_kept {r : Reg} {v : Word} {s t : State} (hr : r ≠ .cmd)
    (h : writeReg r v s = .next t) : CommandKept s t := by
  cases r with
  | cmd => exact absurd rfl hr
  | status =>
    cases h
    exact ⟨rfl, rfl, rfl, rfl, rfl, rfl, Status.done_of_write, rfl⟩
  | ctrl =>
    cases h
    unfold writeCtrl
    split <;> exact .of_unchanged
  | addrHi =>
    cases h
    unfold writeAddrHi
    split <;> exact .of_unchanged
  | cap | prev | addrLo | len | result | reserved =>
    cases h
    exact .of_unchanged

/-- What the access or event `o` can make of `s`. -/
inductive HostEffect (s : State) : HostOp → State → Prop
  | kept {o : HostOp} {t : State} (h : CommandKept s t) : HostEffect s o t
  | issued {o : HostOp} {t : State} (h : Issued s t) : HostEffect s o t
  | stored (a : Nat) (b old : Byte) (h : Memory.read s.mem a = some old) :
      HostEffect s (.store a b) (storeByte a b old s)
  | reset : HostEffect s .reset (resetBlock s)

/-- Everything a host access can do (R12, R28 to R33, R51, R115). -/
theorem hostOp_effect {o : HostOp} {s t : State} (h : hostOp o s = .next t) : HostEffect s o t := by
  cases o with
  | wr a w v =>
    simp only [hostOp] at h
    split at h
    · rename_i r _
      by_cases hr : r = .cmd
      · subst hr
        exact .issued (writeCmd_issued h)
      · exact .kept (writeReg_kept hr h)
    · cases h
    · cases h
  | rd a w =>
    simp only [hostOp] at h
    split at h <;> cases h
    exact .kept .of_unchanged
  | wait =>
    cases h
    exact .kept .of_unchanged
  | store a b =>
    simp only [hostOp] at h
    split at h
    · cases h
    · split at h <;> cases h
      rename_i old hold
      exact .stored a b old hold
  | reset =>
    cases h
    exact .reset

/-! ## RESULT -/

/-- A host access other than the reset event writes no RESULT (R21, R28). -/
theorem HostEffect.result {s t : State} {o : HostOp} (h : HostEffect s o t) (ho : o ≠ .reset) :
    t.result = s.result := by
  cases h with
  | kept h => exact h.result
  | issued h => exact h.result
  | stored a b old h =>
    unfold storeByte
    split <;> rfl
  | reset => exact absurd rfl ho

/-- A host step that changes RESULT takes the reset event. -/
theorem hostStep_result {s t : State} (h : hostStep s = .next t) (hne : t.result ≠ s.result) :
    ∃ rest, s.host = .reset :: rest := by
  rcases hostStep_cases s with ⟨_, he⟩ | ⟨o, rest, hs, he⟩
  · cases he.symm.trans h
    exact absurd rfl hne
  · by_cases ho : o = .reset
    · exact ⟨rest, ho ▸ hs⟩
    · exact absurd ((hostOp_effect (he.symm.trans h)).result ho) hne

/-- The own writes of a command leave STATUS, the latch, the memory, the parameters and the number of
contexts alone (R64). -/
theorem ownWrites_frame (s : State) :
    (ownWrites s).status = s.status ∧ (ownWrites s).op = s.op ∧ (ownWrites s).mem = s.mem ∧
    (ownWrites s).params = s.params ∧ (ownWrites s).ctxs.length = s.ctxs.length := by
  unfold ownWrites
  split <;> exact ⟨rfl, rfl, rfl, rfl, by
    simp [completeCrc32, completeCrc32c, completeNewCrc32, completeNewCrc32c, completeUpdate,
      completeChecksum, completeDrop]⟩

/-- Of the own writes only those of CRC32, CRC32C and CHECKSUM touch RESULT (R80, R81, R91). -/
theorem ownWrites_result {s : State} (h : (ownWrites s).result ≠ s.result) :
    s.op.opc = .crc32 ∨ s.op.opc = .crc32c ∨ s.op.opc = .checksum := by
  unfold ownWrites at h
  cases ho : s.op.opc with
  | crc32 => exact .inl rfl
  | crc32c => exact .inr (.inl rfl)
  | checksum => exact .inr (.inr rfl)
  | newCrc32 | newCrc32c | update | drop =>
    rw [ho] at h
    exact absurd rfl h

theorem complete_status (s : State) : (complete s).status = s.status.ended .noError := by
  obtain ⟨hstatus, _⟩ := ownWrites_frame s
  exact congrArg (Status.ended .noError) hstatus

theorem complete_op (s : State) : (complete s).op = s.op.idle := by
  obtain ⟨_, hop, _⟩ := ownWrites_frame s
  exact congrArg Latch.idle hop

/-- A block step that changes RESULT is the completion of CRC32, CRC32C or CHECKSUM (R64). -/
theorem blockStep_result {s : State} (h : (blockStep s).result ≠ s.result) :
    blockStep s = complete s ∧ (s.op.opc = .crc32 ∨ s.op.opc = .crc32c ∨ s.op.opc = .checksum) := by
  rcases blockStep_cases s with ⟨_, he⟩ | ⟨_, _, b, _, he⟩ | ⟨_, _, _, he⟩ | ⟨_, _, he⟩ <;>
    rw [he] at h
  · exact absurd rfl h
  · exact absurd rfl h
  · exact absurd rfl h
  · exact ⟨he, ownWrites_result h⟩

end Sys2Proof.Machine

open Sys2Proof Sys2Proof.Machine

/-- Settles O27, by the three kinds of step: an idle step changes nothing, a block step changes RESULT
only by completing, and a host step only by the reset event. -/
theorem resultChangesOnlyByCompletion : Obligations.ResultChangesOnlyByCompletion := by
  intro s t hstep hne
  rcases step_cases s with ⟨_, _, he⟩ | ⟨ha, q, n, he⟩ | ⟨_, q, n, he⟩
  · cases he.symm.trans hstep
    exact absurd rfl hne
  · cases he.symm.trans hstep
    obtain ⟨hc, hopc⟩ := blockStep_result hne
    rw [hc, complete_status, complete_op]
    exact .inr ⟨ha, rfl, rfl, rfl, rfl, hopc⟩
  · exact .inl (hostStep_result (s := (s.setSched q).setDraws n) (he.symm.trans hstep) hne)

end

section
/-! PROOF. The invariant: it holds at reset and every step keeps it (R22, R24, R25, R61, R86, R90). -/

namespace Sys2Proof.Machine

/-- Reading a context depends on the file alone. -/
theorem ctxAt_congr {s t : State} (h : t.ctxs = s.ctxs) (k : Nat) : ctxAt t k = ctxAt s k :=
  congrArg (·.getD k Context.reset) h

/-- With no command in flight the invariant asks only for the number of contexts and the memory. -/
theorem State.Inv.of_idle {t : State} (hc : t.ctxs.length = t.params.nCtx) (ha : t.op.active = false)
    (hb : t.status.busy = false) (hw : Memory.wf t.mem = true)
    (hm : ∀ c ∈ t.mem, c.1 < t.params.addrLimit) : t.Inv where
  ctxCount := hc
  activeIsBusy := ha.trans hb.symm
  busyNotDone h := by simp [hb] at h
  busyNoError h := by simp [hb] at h
  memCanonical := hw
  memInSpace := hm
  idxInBuffer h := by simp [ha] at h
  lenAdmitted h := by simp [ha] at h
  addrAdmitted h := by simp [ha] at h
  ctxIndex h := by simp [ha] at h
  ctxState h := by simp [ha] at h
  algOfCtx h := by simp [ha] at h
  serialBuilt h := by simp [ha] at h

/-- A step that ends the command in flight, or finds none, keeps the invariant. -/
theorem State.Inv.ended {s t : State} (hs : s.Inv) (hp : t.params = s.params)
    (hc : t.ctxs.length = s.ctxs.length) (hm : t.mem = s.mem) (ha : t.op.active = false)
    (hb : t.status.busy = false) : t.Inv :=
  .of_idle (by rw [hc, hp, hs.ctxCount]) ha hb (hm ▸ hs.memCanonical)
    (by rw [hm, hp]; exact hs.memInSpace)

/-- The invariant speaks of the fields of `CommandKept` only. -/
theorem State.Inv.of_kept {s t : State} (hs : s.Inv) (h : CommandKept s t) : t.Inv where
  ctxCount := by rw [h.ctxs, h.params, hs.ctxCount]
  activeIsBusy := by rw [h.op, h.busy, hs.activeIsBusy]
  busyNotDone hb := by
    have hd : s.status.done = false := hs.busyNotDone (h.busy ▸ hb)
    exact Bool.eq_false_iff.2 fun ht => by simp [h.done ht] at hd
  busyNoError hb := h.errcode.trans (hs.busyNoError (h.busy ▸ hb))
  memCanonical := h.mem ▸ hs.memCanonical
  memInSpace := by rw [h.mem, h.params]; exact hs.memInSpace
  idxInBuffer := by rw [h.op]; exact hs.idxInBuffer
  lenAdmitted := by rw [h.op]; exact hs.lenAdmitted
  addrAdmitted := by rw [h.op, h.params]; exact hs.addrAdmitted
  ctxIndex := by rw [h.op, h.params]; exact hs.ctxIndex
  ctxState := by rw [h.op, ctxAt_congr h.ctxs]; exact hs.ctxState
  algOfCtx := by rw [h.op, ctxAt_congr h.ctxs]; exact hs.algOfCtx
  serialBuilt := by rw [h.op, h.params]; exact hs.serialBuilt

/-- The start of a command whose latch is admitted keeps the invariant (R61, R62). -/
theorem State.Inv.started {s : State} {o : Latch} (hs : s.Inv) (ho : o.Admitted s) (n : Nat) :
    ((startCommand o s).setDraws n).Inv where
  ctxCount := hs.ctxCount
  activeIsBusy := ho.active
  busyNotDone _ := rfl
  busyNoError _ := rfl
  memCanonical := hs.memCanonical
  memInSpace := hs.memInSpace
  idxInBuffer _ _ := by
    show o.idx.toNat ≤ o.len.toNat
    simp [ho.idx]
  lenAdmitted _ := ho.len
  addrAdmitted _ := ho.addr
  ctxIndex _ := ho.ctxIndex
  ctxState _ := ho.ctxState
  algOfCtx _ := ho.algOfCtx
  serialBuilt _ hser := by
    have hbit : forceSerialBit s = true := ho.serial ▸ hser
    exact (Bool.and_eq_true_iff.1 hbit).1

/-- The issue of a word keeps the invariant. -/
theorem State.Inv.issued {s t : State} (hs : s.Inv) (h : Issued s t) : t.Inv := by
  cases h with
  | dropped _ => exact hs.of_kept ⟨rfl, rfl, rfl, rfl, rfl, rfl, id, rfl⟩
  | refused e _ _ => exact hs.ended rfl rfl rfl rfl rfl
  | started o n _ ho => exact hs.started ho n

/-- A store to a listed byte keeps the invariant: the memory stays canonical and gains no address. -/
theorem State.Inv.setMem_write {s : State} {a : Nat} {b old : Byte} (hs : s.Inv)
    (hread : Memory.read s.mem a = some old) : (s.setMem (Memory.write s.mem a b)).Inv :=
  { hs with
    memCanonical := Memory.wf_write s.mem a b hs.memCanonical
    memInSpace := fun c hc => by
      rcases Memory.mem_write s.mem a b c hc with rfl | hold
      · exact hs.memInSpace (a, old) (Memory.mem_of_read s.mem a old hread)
      · exact hs.memInSpace c hold }

/-- Every host access keeps the invariant. -/
theorem State.Inv.hostEffect {s t : State} {o : HostOp} (hs : s.Inv) (h : HostEffect s o t) : t.Inv := by
  cases h with
  | kept h => exact hs.of_kept h
  | issued h => exact hs.issued h
  | stored a b old hread =>
    have hmem := hs.setMem_write (b := b) hread
    unfold storeByte
    split
    · exact hmem.of_kept .of_unchanged
    · exact hmem
  | reset => exact hs.ended rfl ((freeContexts_length _ _).trans hs.ctxCount.symm) rfl rfl rfl

theorem State.Inv.hostStep {s t : State} (hs : s.Inv) (h : hostStep s = .next t) : t.Inv := by
  rcases hostStep_cases s with ⟨_, he⟩ | ⟨o, rest, _, he⟩ <;> rw [he] at h
  · cases h
    exact hs
  · have hrest : (s.setHost rest).Inv := hs.of_kept .of_unchanged
    exact hrest.hostEffect (hostOp_effect h)

/-- One byte more of a data command with bytes left keeps the invariant: the index stays within the
length (R63, R86). -/
theorem State.Inv.consumed {s : State} (hs : s.Inv) (hmore : moreBytes s = true) (b : Byte) (n : Nat) :
    ((s.setOp (s.op.consume b)).setDraws n).Inv := by
  obtain ⟨_, hlt⟩ : s.op.opc.isData = true ∧ s.op.idx.toNat < s.op.len.toNat := by
    simpa [moreBytes] using hmore
  exact { hs with
    idxInBuffer := fun _ _ => by
      show (s.op.idx + 1#32).toNat ≤ s.op.len.toNat
      bv_omega }

/-- A block step keeps the invariant. -/
theorem State.Inv.blockStep {s : State} (hs : s.Inv) : (blockStep s).Inv := by
  rcases blockStep_cases s with ⟨_, he⟩ | ⟨_, hmore, b, _, he⟩ | ⟨_, _, _, he⟩ | ⟨_, _, he⟩ <;> rw [he]
  · exact hs
  · exact hs.consumed hmore b _
  · exact hs.ended rfl rfl rfl rfl rfl
  · obtain ⟨_, _, hm, hp, hc⟩ := ownWrites_frame s
    exact hs.ended hp hc hm rfl rfl

end Sys2Proof.Machine

open Sys2Proof Sys2Proof.Machine

/-- Settles O51: the invariant does not read the script, and both agents' moves keep it. -/
theorem stepKeepsTheInvariant : Obligations.StepKeepsTheInvariant := by
  intro s t hs hstep
  have hscript : ∀ q n, ((s.setSched q).setDraws n).Inv := fun q n =>
    hs.of_kept .of_unchanged
  rcases step_cases s with ⟨_, _, he⟩ | ⟨_, q, n, he⟩ | ⟨_, q, n, he⟩ <;> rw [he] at hstep
  · cases hstep
    exact hs
  · cases hstep
    exact (hscript q n).blockStep
  · exact (hscript q n).hostStep hstep

/-- Settles O50: nothing is in flight after reset, the memory is empty, and the file has N_CTX
contexts. -/
theorem resetMeetsTheInvariant : Obligations.ResetMeetsTheInvariant := fun _ =>
  .of_idle List.length_replicate rfl rfl rfl nofun

end

section
/-! PROOF. The register window: what its words hold, what a write does, and that no operand register reaches the command in flight (R15 to R32). -/

namespace Sys2Proof.Machine

/-! ## The fields of STATUS and CAP -/

/-- The one-bit fields of the word a read of STATUS returns (R32). -/
theorem Status.word_bits (st : Status) :
    st.word.getLsbD 0 = st.busy ∧ st.word.getLsbD 1 = st.done ∧ st.word.getLsbD 2 = st.overrun ∧
    st.word.getLsbD 3 = st.err := by
  simp only [Status.word, BitVec.getLsbD_append]
  simp

/-- ERRCODE and the reserved fields of the word a read of STATUS returns (R32). -/
theorem Status.word_fields (st : Status) :
    st.word.extractLsb' 4 4 = 0#4 ∧ st.word.extractLsb' 8 4 = st.errcode.bits ∧
    st.word.extractLsb' 12 20 = 0#20 := by
  refine ⟨?_, ?_, ?_⟩ <;>
    · apply BitVec.eq_of_getLsbD_eq
      intro i hi
      simp only [Status.word, BitVec.getLsbD_extractLsb', BitVec.getLsbD_append]
      interval_cases i <;> simp

/-- The one-bit fields of CAP (R17). -/
theorem capWord_bits (p : Params) :
    (capWord p).getLsbD 16 = p.hasSerial ∧ (capWord p).getLsbD 24 = decide (p.addrWidth = .w64) := by
  simp only [capWord, BitVec.getLsbD_append]
  simp

/-- N_CTX and the reserved fields of CAP (R17). -/
theorem capWord_fields (p : Params) :
    (capWord p).extractLsb' 0 9 = BitVec.ofNat 9 p.nCtx ∧ (capWord p).extractLsb' 9 7 = 0#7 ∧
    (capWord p).extractLsb' 17 7 = 0#7 ∧ (capWord p).extractLsb' 25 7 = 0#7 := by
  refine ⟨?_, ?_, ?_, ?_⟩ <;>
    · apply BitVec.eq_of_getLsbD_eq
      intro i hi
      simp only [capWord, BitVec.getLsbD_extractLsb', BitVec.getLsbD_append]
      interval_cases i <;> simp

/-- No error code is above 7 (R98). -/
theorem ErrCode.bits_le (e : ErrCode) : e.bits.toNat ≤ 7 := by
  cases e <;> decide

/-- A STATUS write keeps each of DONE and OVERRUN only where its bit of the word is 0 (R31). -/
theorem Status.write_eq (v : Word) (st : Status) :
    st.write v = { st with
      done := st.done && !v.getLsbD 1
      overrun := st.overrun && !v.getLsbD 2 } := by
  unfold Status.write
  cases v.getLsbD 1 <;> cases v.getLsbD 2 <;> simp

/-- A STATUS write that clears no OVERRUN changes nothing where DONE is 0 already (R31). -/
theorem Status.write_of_not_done {v : Word} {st : Status} (hv : v.getLsbD 2 = false)
    (hd : st.done = false) : st.write v = st := by
  cases st
  simp_all [Status.write]

/-! ## ADDR_HI and CTRL, which some parts have not -/

theorem writeAddrHi_of_w32 {v : Word} {s : State} (h : s.params.addrWidth = .w32) :
    writeAddrHi v s = s := by
  simp [writeAddrHi, h]

theorem writeAddrHi_of_w64 {v : Word} {s : State} (h : s.params.addrWidth = .w64) :
    writeAddrHi v s = s.setAddrHi v := by
  simp [writeAddrHi, h]

theorem addrHiReg_of_w32 {s : State} (h : s.params.addrWidth = .w32) : addrHiReg s = 0#32 := by
  simp [addrHiReg, h]

theorem addrHiReg_of_w64 {s : State} (h : s.params.addrWidth = .w64) : addrHiReg s = s.addrHi := by
  simp [addrHiReg, h]

theorem writeCtrl_of_serial {v : Word} {s : State} (h : s.params.hasSerial = true) :
    writeCtrl v s = s.setForceSerial (v.getLsbD 0) := by
  simp [writeCtrl, h]

theorem writeCtrl_of_no_serial {v : Word} {s : State} (h : s.params.hasSerial = false) :
    writeCtrl v s = s := by
  simp [writeCtrl, h]

/-- The two words CTRL can read as (R16). -/
theorem readReg_ctrl (s : State) :
    readReg .ctrl s = if forceSerialBit s = true then 0x00000001#32 else 0x00000000#32 := by
  unfold readReg
  cases forceSerialBit s <;> rfl

/-- ADDR as a number: its upper half is what ADDR_HI reads as (R19). -/
theorem addrOperand_toNat (s : State) :
    (addrOperand s).toNat = (addrHiReg s).toNat * 2 ^ 32 + s.addrLo.toNat := by
  unfold addrOperand
  rw [BitVec.toNat_append, ← Nat.shiftLeft_add_eq_or_of_lt s.addrLo.isLt, Nat.shiftLeft_eq]

/-! ## Registers that the block does not read -/

/-- A change of the state that no block step can see and that is kept by all the block writes. -/
structure BlockBlind (f : State → State) : Prop where
  status    : ∀ s, (f s).status = s.status
  ctxs      : ∀ s, (f s).ctxs = s.ctxs
  op        : ∀ s, (f s).op = s.op
  mem       : ∀ s, (f s).mem = s.mem
  raced     : ∀ s, (f s).raced = s.raced
  draws     : ∀ s, (f s).draws = s.draws
  setStatus : ∀ s v, (f s).setStatus v = f (s.setStatus v)
  setResult : ∀ s v, (f s).setResult v = f (s.setResult v)
  setCtxs   : ∀ s v, (f s).setCtxs v = f (s.setCtxs v)
  setOp     : ∀ s v, (f s).setOp v = f (s.setOp v)
  setDraws  : ∀ s v, (f s).setDraws v = f (s.setDraws v)

section
variable {f : State → State} (hf : BlockBlind f)
include hf

theorem BlockBlind.ctxAt (s : State) (k : Nat) : ctxAt (f s) k = ctxAt s k :=
  ctxAt_congr (hf.ctxs s) k

theorem BlockBlind.memRead (s : State) (a : Nat) : memRead (f s) a = memRead s a := by
  have hp : pickHeld (f s) a = pickHeld s a := by
    funext cur
    simp only [pickHeld, hf.raced, hf.draws]
  simp only [Machine.memRead, hf.mem, hp]

theorem BlockBlind.ownWrites (s : State) : ownWrites (f s) = f (ownWrites s) := by
  unfold Machine.ownWrites
  rw [hf.op]
  split <;>
    simp only [completeCrc32, completeCrc32c, completeNewCrc32, completeNewCrc32c, completeUpdate,
      completeChecksum, completeDrop, State.setCtx, hf.op, hf.ctxs, hf.draws, hf.ctxAt, hf.setResult,
      hf.setCtxs, hf.setDraws]

theorem BlockBlind.blockStep (s : State) : blockStep (f s) = f (blockStep s) := by
  have hmore : moreBytes (f s) = moreBytes s := by simp only [moreBytes, hf.op]
  have haddr : nextAddr (f s) = nextAddr s := by simp only [nextAddr, hf.op]
  unfold Machine.blockStep
  rw [hf.op, hmore, haddr, hf.memRead]
  split
  · split
    · split
      · simp only [hf.draws, hf.setOp, hf.setDraws]
      · simp only [raiseError, hf.status, hf.op, hf.setStatus, hf.setOp]
    · simp only [complete, finish, hf.ownWrites, hf.status, hf.op, hf.setStatus, hf.setOp]
  · rfl

/-- Block steps do the same, but for the change, whether it is made before or after them. -/
theorem BlockBlind.blockRun (n : Nat) (s : State) : blockRun n (f s) = f (blockRun n s) := by
  induction n generalizing s with
  | zero => rfl
  | succ n ih =>
    rw [Machine.blockRun, hf.blockStep, ih, Machine.blockRun]

end

theorem blockBlind_setForceSerial (b : Bool) : BlockBlind (·.setForceSerial b) := by
  constructor <;> intros <;> rfl

theorem blockBlind_setPrev (v : Word) : BlockBlind (·.setPrev v) := by
  constructor <;> intros <;> rfl

theorem blockBlind_setAddrLo (v : Word) : BlockBlind (·.setAddrLo v) := by
  constructor <;> intros <;> rfl

theorem blockBlind_setAddrHi (v : Word) : BlockBlind (·.setAddrHi v) := by
  constructor <;> intros <;> rfl

theorem blockBlind_setLen (v : Word) : BlockBlind (·.setLen v) := by
  constructor <;> intros <;> rfl

/-- A command that starts latches FORCE_SERIAL as it reads (R30, R62). -/
theorem Issued.serial {s t : State} (h : Issued s t) (hidle : s.status.busy = false)
    (hstarted : t.status.busy = true) : t.op.serial = forceSerialBit s := by
  cases h with
  | dropped hbusy => exact absurd (hidle.symm.trans hbusy) Bool.false_ne_true
  | refused e _ _ => exact absurd hstarted Bool.false_ne_true
  | started o n _ ho => exact ho.serial

/-! ## The places of the window -/

/-- A word access to an aligned offset of the window reaches the register there (R15, R45). -/
theorem targetOf_offset (p : Params) {off : Nat} (hle : off ≤ 0xFC) (hmod : off % 4 = 0) :
    targetOf p (p.regBase + off) .word = .reg (regAt off) := by
  have hw : meetsWindow p (p.regBase + off) AccessWidth.word.bytes = true :=
    decide_eq_true (by simp only [AccessWidth.bytes]; omega)
  simp [targetOf, hw, hmod]

/-- The offsets from 0x24 up name no register (R15). -/
theorem regAt_of_reserved {off : Nat} (h : 0x24 ≤ off) : regAt off = .reserved := by
  unfold regAt
  repeat rw [if_neg (by omega)]

/-- The host's write statement writes the register it names (R59). -/
theorem hostOp_wrReg (r : Reg) (v : Word) (s : State) :
    hostOp (wrReg s.params r v) s = writeReg r v s := by
  simp [hostOp, wrReg, targetOf_reg]

/-- The host's read statement records what the register reads as, and does nothing else (R27, R59). -/
theorem hostOp_rdReg (r : Reg) (s : State) :
    hostOp (rdReg s.params r) s = .next { s with reads := readReg r s :: s.reads } := by
  simp only [hostOp, rdReg, targetOf_reg]
  rfl

/-! ## A CMD write as the next access -/

theorem writeCmd_of_command {w : Word} {i : Instr} (h : decode w = .command i) (s : State) :
    writeCmd w s = exec i s := by
  simp [writeCmd, h]

/-- A register write that stands next is ready to be made. -/
theorem hostReady_of_wrReg {s : State} {r : Reg} {v : Word} {rest : List HostOp}
    (h : s.host = wrReg s.params r v :: rest) : hostReady s = true := by
  simp [hostReady, h, wrReg]

/-- A host step whose access writes a command's word to CMD issues the command (R33, R62). -/
theorem hostStep_of_command {s : State} {rest : List HostOp} {w : Word} {i : Instr}
    (hs : s.host = wrReg s.params .cmd w :: rest) (hw : decode w = .command i) :
    hostStep s = exec i (s.setHost rest) := by
  unfold hostStep
  rw [hs]
  exact (hostOp_wrReg .cmd w (s.setHost rest)).trans (writeCmd_of_command hw _)

/-- While no command is in flight, a host that is ready makes its move. -/
theorem step_of_inactive {s : State} (ha : s.op.active = false) (hr : hostReady s = true) :
    step s = hostStep s := by
  simp [step, advance, ha, hr]

/-! ## Reset -/

/-- Every register is 0 and no context is valid, as R36 says. -/
structure ResetValues (s : State) : Prop where
  status      : s.status = Status.reset
  forceSerial : s.forceSerial = false
  prev        : s.prev = 0#32
  addrLo      : s.addrLo = 0#32
  addrHi      : s.addrHi = 0#32
  len         : s.len = 0#32
  result      : s.result = 0#32
  inactive    : s.op.active = false
  ctxCount    : s.ctxs.length = s.params.nCtx
  noneValid   : ∀ c ∈ s.ctxs, c.valid = false

theorem resetValues_resetWith (p : Params) : ResetValues (State.resetWith p) where
  status := rfl
  forceSerial := rfl
  prev := rfl
  addrLo := rfl
  addrHi := rfl
  len := rfl
  result := rfl
  inactive := rfl
  ctxCount := List.length_replicate
  noneValid c hc := by rw [List.eq_of_mem_replicate hc]; rfl

theorem resetValues_resetBlock (s : State) : ResetValues (resetBlock s) where
  status := rfl
  forceSerial := rfl
  prev := rfl
  addrLo := rfl
  addrHi := rfl
  len := rfl
  result := rfl
  inactive := rfl
  ctxCount := freeContexts_length _ _
  noneValid := freeContexts_invalid _ _

/-- Where no context of the file is valid, none reads as valid. -/
theorem ctxAt_invalid {s : State} (h : ∀ c ∈ s.ctxs, c.valid = false) (k : Nat) :
    (ctxAt s k).valid = false := by
  unfold ctxAt
  rw [List.getD_eq_getElem?_getD]
  cases hk : s.ctxs[k]? with
  | none => rfl
  | some c => exact h c (List.mem_of_getElem? hk)

/-- ADDR_HI reads 0 where it holds 0, on every part. -/
theorem addrHiReg_of_zero {s : State} (h : s.addrHi = 0#32) : addrHiReg s = 0#32 := by
  unfold addrHiReg
  split
  · rfl
  · exact h

end Sys2Proof.Machine

open Sys2Proof Sys2Proof.Machine

/-- Settles O29: an operand register is none that a block step reads, so its write commutes with any
number of them. -/
theorem operandWritesDoNotReachTheCommand : Obligations.OperandWritesDoNotReachTheCommand := by
  refine ⟨fun s v => ⟨rfl, rfl, rfl, fun h => ?_, fun h => ?_⟩, fun n s v => ⟨?_, ?_, ?_, ?_⟩⟩
  · exact congrArg _ (writeAddrHi_of_w64 h)
  · exact congrArg _ (writeAddrHi_of_w32 h)
  · exact (blockBlind_setPrev v).blockRun n s
  · exact (blockBlind_setAddrLo v).blockRun n s
  · exact (blockBlind_setAddrHi v).blockRun n s
  · exact (blockBlind_setLen v).blockRun n s

/-- Settles O30: no block step reads FORCE_SERIAL; the issue of a command latches it. -/
theorem ctrlWriteTakesEffectAtTheNextIssue : Obligations.CtrlWriteTakesEffectAtTheNextIssue := by
  refine ⟨fun s v h => ?_, fun s v h => ?_, fun n s b => ?_, fun i s t h hidle hstarted => ?_⟩
  · exact congrArg _ (writeCtrl_of_serial h)
  · exact congrArg _ (writeCtrl_of_no_serial h)
  · exact (blockBlind_setForceSerial b).blockRun n s
  · exact (exec_issued h).serial hidle hstarted

/-- Settles O37: both resets leave the values of R36, and the registers read as those. -/
theorem resetLeavesTheStatedValues : Obligations.ResetLeavesTheStatedValues := by
  intro s hs
  have hv : ResetValues s := by
    obtain ⟨p, rfl⟩ | ⟨t, rfl⟩ := hs
    · exact resetValues_resetWith p
    · exact resetValues_resetBlock t
  have hctrl : readReg .ctrl s = 0x00000000#32 := by
    simp [readReg_ctrl, forceSerialBit, hv.forceSerial]
  have hstatus : readReg .status s = 0x00000000#32 := congrArg Status.word hv.status
  exact ⟨hstatus, hctrl, hv.prev, hv.addrLo, addrHiReg_of_zero hv.addrHi, hv.len, hv.result, rfl,
    congrArg Status.overrun hv.status, hv.inactive, hv.ctxCount, ctxAt_invalid hv.noneValid⟩

/-- Settles O31: the write on the STATUS fields, and where it changes none of them. -/
theorem statusWriteClearsDoneAndOverrun : Obligations.StatusWriteClearsDoneAndOverrun := by
  refine fun s v => ⟨?_, fun hv _ hd => ?_⟩
  · exact congrArg (fun st => Host.Outcome.next (s.setStatus st)) (Status.write_eq v s.status)
  · exact congrArg (fun st => Host.Outcome.next (s.setStatus st)) (Status.write_of_not_done hv hd)

/-- Settles O32: the fields of the STATUS word are read off its layout. -/
theorem statusWordHasItsFields : Obligations.StatusWordHasItsFields := by
  refine ⟨⟨rfl, rfl, rfl, rfl, rfl, rfl, rfl, rfl⟩, fun s => ?_⟩
  obtain ⟨hbusy, hdone, hoverrun, herr⟩ := s.status.word_bits
  obtain ⟨hlow, hcode, hhigh⟩ := s.status.word_fields
  refine ⟨hbusy, hdone, hoverrun, ?_, hlow, hcode, hhigh, ?_⟩
  · show s.status.word.getLsbD 3 = true ↔ s.status.word.extractLsb' 8 4 ≠ 0#4
    rw [herr, hcode, Status.err, decide_eq_true_iff]
  · show (s.status.word.extractLsb' 8 4).toNat ≤ 7
    exact hcode ▸ s.status.errcode.bits_le

/-- Settles O33: the fields of CAP are read off its layout, and N_CTX fits its nine bits. -/
theorem capReportsTheParameters : Obligations.CapReportsTheParameters := by
  intro s v
  obtain ⟨hserial, haddr⟩ := capWord_bits s.params
  obtain ⟨hctx, hres1, hres2, hres3⟩ := capWord_fields s.params
  have hle : s.params.nCtx ≤ 256 := nCtx_le s.params
  refine ⟨?_, Nat.succ_pos _, hle, hres1, hserial, hres2, haddr, hres3, rfl⟩
  show ((capWord s.params).extractLsb' 0 9).toNat = s.params.nCtx
  rw [hctx, BitVec.toNat_ofNat]
  omega

/-- Settles O34: the offsets from 0x24 up are the reserved register, which reads 0. -/
theorem reservedSpaceReadsZero : Obligations.ReservedSpaceReadsZero := by
  refine ⟨fun s off v hlo hhi hmod => ?_, fun _ _ => ⟨rfl, rfl⟩, fun s => ?_,
    fun s r => hostOp_rdReg r s⟩
  · have ht : targetOf s.params (s.params.regBase + off) .word = .reg .reserved := by
      rw [targetOf_offset s.params hhi hmod, regAt_of_reserved hlo]
    constructor <;> simp only [hostOp, ht] <;> rfl
  · obtain ⟨hlow, _, hhigh⟩ := s.status.word_fields
    refine ⟨?_, hlow, hhigh⟩
    rw [readReg_ctrl]
    split <;> decide

/-- Settles O36, with ADDR_HI and CTRL by the parameter that decides whether the part has them. -/
theorem registersReadBack : Obligations.RegistersReadBack := by
  refine fun s v => ⟨⟨_, rfl, rfl⟩, ⟨_, rfl, rfl⟩, ⟨_, rfl, rfl⟩, ⟨_, rfl, ?_⟩, ⟨_, rfl, ?_⟩,
    ⟨_, rfl, rfl⟩, rfl, fun h => ?_, fun h => ?_⟩
  · show addrHiReg (writeAddrHi v s) = _
    cases h : s.params.addrWidth with
    | w32 => simp [writeAddrHi_of_w32 h, addrHiReg_of_w32 h]
    | w64 =>
      rw [writeAddrHi_of_w64 h]
      exact addrHiReg_of_w64 (s := s.setAddrHi v) h
  · rw [readReg_ctrl]
    cases h : s.params.hasSerial with
    | true => simp [writeCtrl_of_serial h, forceSerialBit, h]
    | false => simp [writeCtrl_of_no_serial h, forceSerialBit, h]
  · simp [addrOperand_toNat, addrHiReg_of_w32 h]
  · rw [addrOperand_toNat, addrHiReg_of_w64 h]

/-- Settles O53: where the move is the host's, the step is the host step on the CMD write;
`withFetchWord` puts that write in front and, in flight, gives the host the next move. -/
theorem stepRunsTheDecodedCommand : Obligations.StepRunsTheDecodedCommand := by
  have hfirst : ∀ (s : State) (rest : List HostOp) (w : Word) (i : Instr),
      s.host = wrReg s.params .cmd w :: rest → decode w = .command i →
      (s.op.active = false → step s = exec i (s.setHost rest)) ∧
      (∀ n q, s.op.active = true → s.sched = (n + 1) :: q →
        step s = exec i ((s.setSched (n :: q)).setHost rest)) := by
    refine fun s rest w i hs hw => ⟨fun ha => ?_, fun n q ha hq => ?_⟩
    · rw [step_of_inactive ha (hostReady_of_wrReg hs), hostStep_of_command hs hw]
    · rw [step_of_sched_succ ha (hostReady_of_wrReg hs) hq]
      exact hostStep_of_command (s := s.setSched (n :: q)) hs hw
  refine ⟨hfirst, fun s nbits w i hw => ?_⟩
  obtain ⟨hidle, hflight⟩ := hfirst (s.withFetchWord nbits w) s.host _ i rfl hw
  cases ha : s.op.active with
  | false =>
    rw [hidle ha]
    simp [State.withFetchWord, withCmdWrite, State.setHost, ha]
  | true =>
    rw [hflight 0 s.sched ha (by simp [State.withFetchWord, withCmdWrite, ha])]
    simp [State.withFetchWord, withCmdWrite, State.setHost, State.setSched]

end

section
/-! PROOF. Memory: what a block step leaves alone, what a raced read returns, who writes a byte, which accesses reach a register, and which launches are refused (R43 to R45, R51, R61, R63). -/

namespace Sys2Proof.Machine

/-! ## The frame of a block step -/

/-- A change of other fields than the parameters and operand registers keeps those. -/
theorem OperandsKept.of_unchanged {s t : State} (hp : t.params = s.params := by rfl)
    (hf : t.forceSerial = s.forceSerial := by rfl) (hv : t.prev = s.prev := by rfl)
    (hlo : t.addrLo = s.addrLo := by rfl) (hhi : t.addrHi = s.addrHi := by rfl)
    (hl : t.len = s.len := by rfl) : OperandsKept s t :=
  ⟨hp, hf, hv, hlo, hhi, hl⟩

/-- A change of fields of the block alone keeps everything outside it. -/
theorem OutsideKept.of_unchanged {s t : State} (hm : t.mem = s.mem := by rfl)
    (he : t.sideEffects = s.sideEffects := by rfl) (hh : t.host = s.host := by rfl)
    (hr : t.reads = s.reads := by rfl) (hq : t.sched = s.sched := by rfl) : OutsideKept s t :=
  ⟨fun a => congrArg (Memory.read · a) hm, he, hh, hr, hq⟩

theorem OtherContextsKept.of_ctxs {s t : State} (k : Nat) (h : t.ctxs = s.ctxs) :
    OtherContextsKept k s t :=
  ⟨congrArg List.length h, fun j _ => ctxAt_congr h j⟩

/-- A file with one context written differs from the old one there only (R95). -/
theorem OtherContextsKept.of_set {s t : State} {k : Nat} {c : Context} (h : t.ctxs = s.ctxs.set k c) :
    OtherContextsKept k s t :=
  ⟨by rw [h, List.length_set],
    fun j hj => (ctxAt_congr (s := s.setCtx k c) h j).trans (ctxAt_setCtx_other s k j c hj)⟩

/-- The own writes of a command touch no context but OP.k's (R64, R95). -/
theorem ownWrites_otherContextsKept (s : State) : OtherContextsKept s.op.k.toNat s (ownWrites s) := by
  unfold ownWrites
  cases s.op.opc with
  | crc32 | crc32c | checksum => exact .of_ctxs _ rfl
  | newCrc32 | newCrc32c | update | drop => exact .of_set rfl

/-- The completion of a command writes no operand register and nothing outside the block (R64). -/
theorem complete_frame (s : State) : OperandsKept s (complete s) ∧ OutsideKept s (complete s) := by
  unfold complete ownWrites
  cases s.op.opc <;> exact ⟨.of_unchanged, .of_unchanged⟩

/-! ## Raced reads -/

/-- The free choice for a raced byte falls on one of the values it held (R51). -/
theorem pickHeld_mem (s : State) (a : Nat) (cur : Byte) :
    pickHeld s a cur ∈ cur :: olderValues s.raced a := by
  unfold pickHeld
  cases olderValues s.raced a with
  | nil => exact List.mem_cons_self
  | cons b l =>
    have hlt : Config.freePick s.draws % (l.length + 2) < (cur :: b :: l).length :=
      Nat.mod_lt _ (Nat.succ_pos _)
    show (cur :: b :: l).getD (Config.freePick s.draws % (l.length + 2)) cur ∈ cur :: b :: l
    rw [List.getD_eq_getElem _ _ hlt]
    exact List.getElem_mem hlt

/-- A byte that a read returns is the free choice over a byte the memory admits (R39, R51). -/
theorem memRead_eq_some {s : State} {a : Nat} {b : Byte} :
    memRead s a = some b ↔ ∃ cur, Memory.read s.mem a = some cur ∧ pickHeld s a cur = b := by
  simp [memRead]

/-! ## Who writes the memory -/

@[simp] theorem storeByte_mem (a : Nat) (b old : Byte) (s : State) :
    (storeByte a b old s).mem = Memory.write s.mem a b := by
  unfold storeByte
  split <;> rfl

/-- A store into the buffer in flight records the value it overwrites (R51). -/
theorem storeByte_raced {a : Nat} {b old : Byte} {s : State} (h : inFlightBuffer s a = true) :
    (storeByte a b old s).raced = (a, old) :: s.raced := by
  simp [storeByte, h]

theorem olderValues_cons_same (a : Nat) (b : Byte) (l : List Host.Cell) :
    olderValues ((a, b) :: l) a = b :: olderValues l a := by
  simp [olderValues]

/-- No block step writes memory (R43). -/
theorem blockStep_mem (s : State) : (blockStep s).mem = s.mem := by
  rcases blockStep_cases s with ⟨_, he⟩ | ⟨_, _, b, _, he⟩ | ⟨_, _, _, he⟩ | ⟨_, _, he⟩ <;> rw [he]
  · rfl
  · rfl
  · obtain ⟨_, _, hm, _, _⟩ := ownWrites_frame s
    exact hm

theorem blockRun_mem (n : Nat) (s : State) : (blockRun n s).mem = s.mem := by
  induction n generalizing s with
  | zero => rfl
  | succ n ih => exact (ih (blockStep s)).trans (blockStep_mem s)

/-- Issue writes no memory. -/
theorem Issued.mem {s t : State} (h : Issued s t) : t.mem = s.mem := by
  cases h <;> rfl

/-- A host access that changes the byte at `a` is a store to it, and the byte is the one stored. -/
theorem HostEffect.read_changed {s t : State} {o : HostOp} {a : Nat} (h : HostEffect s o t)
    (hne : Memory.read t.mem a ≠ Memory.read s.mem a) :
    ∃ b, o = .store a b ∧ Memory.read t.mem a = some b := by
  cases h with
  | kept h => exact absurd (by rw [h.mem]) hne
  | issued h => exact absurd (by rw [h.mem]) hne
  | stored a' b old _ =>
    rw [storeByte_mem] at hne ⊢
    have ha : a = a' := Classical.byContradiction fun hn =>
      hne (Memory.read_write_other s.mem a' a b hn)
    subst ha
    exact ⟨b, rfl, Memory.read_write_same s.mem a b⟩
  | reset => exact absurd rfl hne

/-- A host step that changes the byte at `a` takes a store to it off the host's list. -/
theorem hostStep_read_changed {s t : State} {a : Nat} (h : hostStep s = .next t)
    (hne : Memory.read t.mem a ≠ Memory.read s.mem a) :
    ∃ b rest, s.host = .store a b :: rest ∧ Memory.read t.mem a = some b := by
  rcases hostStep_cases s with ⟨_, he⟩ | ⟨o, rest, hs, he⟩
  · cases he.symm.trans h
    exact absurd rfl hne
  · obtain ⟨b, rfl, hb⟩ := (hostOp_effect (he.symm.trans h)).read_changed hne
    exact ⟨b, rest, hs, hb⟩

/-! ## Accesses to the register window -/

/-- An access that meets the window elsewhere than in a whole word of it reaches no register (R45). -/
theorem targetOf_bad {p : Params} {a : Nat} {w : AccessWidth} (hm : meetsWindow p a w.bytes = true)
    (hne : ¬ (w = .word ∧ ∃ i, i < 64 ∧ a = p.regBase + 4 * i)) : targetOf p a w = .bad := by
  have hlt : a < p.regBase + 0x100 := (of_decide_eq_true hm).2
  have hmis : ¬ (w = .word ∧ p.regBase ≤ a ∧ (a - p.regBase) % 4 = 0) := fun ⟨hw, hle, hmod⟩ =>
    hne ⟨hw, (a - p.regBase) / 4, by omega, by omega⟩
  rw [targetOf, if_pos hm, if_neg hmis]

theorem hostOp_of_bad {s : State} {a : Nat} {w : AccessWidth} (v : Word)
    (h : targetOf s.params a w = .bad) :
    hostOp (.wr a w v) s = .fault .badRegisterAccess ∧
    hostOp (.rd a w) s = .fault .badRegisterAccess := by
  simp [hostOp, h]

theorem hostOp_of_reg {s : State} {a : Nat} {w : AccessWidth} {r : Reg} (v : Word)
    (h : targetOf s.params a w = .reg r) :
    hostOp (.wr a w v) s = writeReg r v s ∧
    hostOp (.rd a w) s = .next { s with reads := readReg r s :: s.reads } := by
  refine ⟨by simp only [hostOp, h], ?_⟩
  simp only [hostOp, h]
  rfl

theorem hostOp_store_of_window {s : State} {a : Nat} (b : Byte)
    (h : meetsWindow s.params a 1 = true) :
    hostOp (.store a b) s = .fault .badRegisterAccess := by
  simp [hostOp, h]

/-! ## The checks of a command -/

/-- The checks made at the issue of a command, in the order of R61. -/
def Instr.checks (i : Instr) (s : State) : List ErrCode :=
  match i with
  | .crc32 => [checkLen s, checkAddr s]
  | .crc32c => [checkLen s, checkAddr s]
  | .newCrc32 k => [checkIndex k s, checkFree k s]
  | .newCrc32c k => [checkIndex k s, checkFree k s]
  | .update k => [checkIndex k s, checkLive k s, checkLen s, checkAddr s]
  | .checksum k => [checkIndex k s, checkLive k s]
  | .drop k => [checkIndex k s, checkLive k s]

/-- A data command is issued by its checks as one (R62). -/
theorem exec_of_data {i : Instr} (h : i.opcode.isData = true) (s : State) :
    ∃ k a S, exec i s = issueData (firstError (Instr.checks i s)) i.opcode k a S s := by
  cases i with
  | crc32 | crc32c | update => exact ⟨_, _, _, rfl⟩
  | newCrc32 | newCrc32c | checksum | drop => cases h

/-- Every other command is issued by its checks as a context command (R62). -/
theorem exec_of_not_data {i : Instr} (h : i.opcode.isData = false) (s : State) :
    exec i s = issueContext (firstError (Instr.checks i s)) i.opcode i.ctx s := by
  cases i with
  | crc32 | crc32c | update => cases h
  | newCrc32 | newCrc32c | checksum | drop => rfl

theorem firstError_nil : firstError [] = .noError := rfl

/-- A check that may fail with `e` only stands in front of the others as R61 writes it. -/
theorem firstError_ite_cons (p : Prop) [Decidable p] {e : ErrCode} (he : e ≠ .noError)
    (es : List ErrCode) :
    firstError ((if p then e else .noError) :: es) = if p then e else firstError es := by
  by_cases hp : p <;> simp [firstError, hp, he]

/-- `checkLive` with its failing branch in front, as R61 writes it. -/
theorem checkLive_eq (k : Nat) (s : State) :
    checkLive k s = if (ctxAt s k).valid = false then .ctxInvalid else .noError := by
  unfold checkLive
  cases (ctxAt s k).valid <;> rfl

/-- The checks of a command are those that R61 makes on its word. -/
theorem checkWord_encode {i : Instr} (hw : i.wellFormed = true) (s : State) :
    checkWord (encode i) s = firstError (Instr.checks i s) := by
  obtain ⟨hrsv, hopc, hctx⟩ := Laws.Fields.of_instr i
  unfold checkWord
  rw [hrsv, hopc, hctx hw]
  cases i <;>
    simp [Instr.opcode, Instr.ctx, opcodeBits, Instr.checks, checkIndex, checkFree, checkLive_eq,
      checkLen, checkAddr, firstError_ite_cons, firstError_nil]

/-! ## Refused launches -/

/-- The issue of a data command is refused exactly where it would start on a buffer with read side
effects (R44). -/
theorem issueData_refused_iff {e : ErrCode} {o : Opcode} {k : Nat} {a : Alg} {S : Word} {s : State} :
    (∃ r, issueData e o k a S s = .refused r) ↔
      s.status.busy = false ∧ e = .noError ∧ bufferHasSideEffects s = true := by
  rcases issueData_cases e o k a S s with ⟨hb, he, hse, hr⟩ | ⟨hor, hn⟩
  · exact ⟨fun _ => ⟨hb, he, hse⟩, fun _ => ⟨_, hr⟩⟩
  · refine ⟨fun ⟨r, h⟩ => (nomatch hn.symm.trans h), fun ⟨hb, he, hse⟩ => ?_⟩
    rcases hor with h | h | h
    · exact absurd (hb.symm.trans h) Bool.false_ne_true
    · exact absurd he h
    · exact absurd (h.symm.trans hse) Bool.false_ne_true

/-- The issue of a command has no other stop than the refusal of R44. -/
theorem exec_stops (i : Instr) (s : State) :
    exec i s = .refused .readSideEffects ∨ ∃ t, exec i s = .next t := by
  cases hd : i.opcode.isData with
  | true =>
    obtain ⟨k, a, S, he⟩ := exec_of_data hd s
    rw [he]
    rcases issueData_cases (firstError (Instr.checks i s)) i.opcode k a S s with ⟨_, _, _, h⟩ | ⟨_, h⟩
    · exact .inl h
    · exact .inr ⟨_, h⟩
  | false => exact .inr ⟨_, exec_of_not_data hd s⟩

end Sys2Proof.Machine

open Sys2Proof Sys2Proof.Machine

/-- Settles O9: a context command is never refused, and a data command's own checks are those of R61
on its word. -/
theorem commandsStopOnlyOnSideEffects : Obligations.CommandsStopOnlyOnSideEffects := by
  refine fun i s hw => ⟨?_, fun r hr => ?_, fun f hf => ?_⟩
  · cases hd : i.opcode.isData with
    | true =>
      obtain ⟨k, a, S, he⟩ := exec_of_data hd s
      rw [he, checkWord_encode hw, issueData_refused_iff]
      exact ⟨fun h => ⟨rfl, h⟩, fun h => h.2⟩
    | false =>
      exact ⟨fun ⟨r, h⟩ => (nomatch (exec_of_not_data hd s).symm.trans h),
        fun ⟨hdata, _⟩ => (nomatch hdata)⟩
  · rcases exec_stops i s with h | ⟨t, h⟩ <;> cases h.symm.trans hr
    rfl
  · rcases exec_stops i s with h | ⟨t, h⟩ <;> cases h.symm.trans hf

/-- Settles O12: of the four things a block step can do only the completion writes a context, and that
is OP.k's. -/
theorem blockStepFrame : Obligations.BlockStepFrame := by
  intro s
  rcases blockStep_cases s with ⟨_, he⟩ | ⟨_, _, b, _, he⟩ | ⟨_, _, _, he⟩ | ⟨_, _, he⟩ <;> rw [he]
  · exact ⟨.of_unchanged, .of_unchanged, rfl, .of_ctxs _ rfl⟩
  · exact ⟨.of_unchanged, .of_unchanged, rfl, .of_ctxs _ rfl⟩
  · exact ⟨.of_unchanged, .of_unchanged, rfl, .of_ctxs _ rfl⟩
  · obtain ⟨hoperands, houtside⟩ := complete_frame s
    exact ⟨hoperands, houtside, by rw [complete_status, Status.ended_overrun],
      ownWrites_otherContextsKept s⟩

/-- Settles O15: the free choice is among the values held, and a store in flight adds the old one. -/
theorem racedReadIsAHeldValue : Obligations.RacedReadIsAHeldValue := by
  refine ⟨memRead_of_not_raced, fun s a b h => ?_, fun s a b old h => ⟨?_, ?_⟩⟩
  · obtain ⟨cur, hcur, hpick⟩ := memRead_eq_some.1 h
    rcases List.mem_cons.1 (hpick ▸ pickHeld_mem s a cur) with rfl | hold
    · exact .inl hcur
    · exact .inr ⟨hold, cur, hcur⟩
  · rw [storeByte_mem, Memory.read_write_same]
  · rw [storeByte_raced h, olderValues_cons_same]

/-- Settles O28, by the three kinds of step: only a host step can change a byte, by a store to it. -/
theorem blockWritesNoMemory : Obligations.BlockWritesNoMemory := by
  refine ⟨blockRun_mem, fun s t a hstep hne => ?_⟩
  rcases step_cases s with ⟨_, _, he⟩ | ⟨_, q, n, he⟩ | ⟨_, q, n, he⟩
  · cases he.symm.trans hstep
    exact absurd rfl hne
  · cases he.symm.trans hstep
    exact absurd (by rw [blockStep_mem]; rfl) hne
  · exact hostStep_read_changed (s := (s.setSched q).setDraws n) (he.symm.trans hstep) hne

/-- Settles O35: an access that meets the window reaches a register only at a whole word of it, and
each of the nine named offsets is its register's own. -/
theorem onlyAlignedWordAccessesReachRegisters : Obligations.OnlyAlignedWordAccessesReachRegisters := by
  refine ⟨fun s a w v hm hne => hostOp_of_bad v (targetOf_bad hm hne), fun s a b hlo hhi => ?_,
    fun s i v hi => ?_, fun s v => ?_, fun s => ?_⟩
  · exact hostOp_store_of_window b (decide_eq_true ⟨Nat.lt_succ_of_le hlo, hhi⟩)
  · exact hostOp_of_reg v (targetOf_offset s.params (by omega) (by omega))
  · have hwr (r : Reg) := hostOp_wrReg r v s
    exact ⟨hwr .cmd, hwr .status, hwr .ctrl, hwr .cap, hwr .prev, hwr .addrLo, hwr .addrHi, hwr .len,
      hwr .result⟩
  · have hrd (r : Reg) := hostOp_rdReg r s
    exact ⟨hrd .cmd, hrd .status, hrd .ctrl, hrd .cap, hrd .prev, hrd .addrLo, hrd .addrHi, hrd .len,
      hrd .result⟩

end

section
/-! PROOF. Encoding: the fields of a word, what it decodes to, and the rows of the opcode table (R53 to R58, R66). -/

namespace Sys2Proof.Machine

/-! ## A word and its fields -/

/-- A word is its three fields put together (R53). -/
theorem word_eq_append (w : Word) : (rsvField w ++ ctxField w) ++ opcField w = w := by
  unfold rsvField ctxField opcField
  rw [BitVec.extractLsb'_append_extractLsb'_eq_extractLsb' (start₁ := 8) (len₁ := 8) rfl,
    BitVec.extractLsb'_append_extractLsb'_eq_extractLsb' (start₁ := 0) (len₁ := 8) rfl,
    BitVec.extractLsb'_eq_self]

/-- Two words are the same when their three fields are. -/
theorem word_eq_iff (v w : Word) :
    v = w ↔ rsvField v = rsvField w ∧ ctxField v = ctxField w ∧ opcField v = opcField w := by
  refine ⟨fun h => h ▸ ⟨rfl, rfl, rfl⟩, fun ⟨hr, hc, ho⟩ => ?_⟩
  rw [← word_eq_append v, hr, hc, ho, word_eq_append]

/-- Masking a word masks each of its fields. -/
theorem fields_and (v w : Word) :
    rsvField (v &&& w) = rsvField v &&& rsvField w ∧ ctxField (v &&& w) = ctxField v &&& ctxField w ∧
    opcField (v &&& w) = opcField v &&& opcField w :=
  ⟨BitVec.extractLsb'_and, BitVec.extractLsb'_and, BitVec.extractLsb'_and⟩

/-- The CTX field of a command's word is its context index, cut to 8 bits (R53). -/
theorem ctxField_encode (i : Instr) : ctxField (encode i) = BitVec.ofNat 8 i.ctx :=
  (Laws.Fields.fields_of_append (BitVec.ofNat 8 i.ctx) (opcodeBits i.opcode)).2.2

/-! ## The opcode map (R55) -/

theorem opcodeOfBits_opcodeBits (o : Opcode) : opcodeOfBits (opcodeBits o) = some o := by
  cases o <;> decide

/-- An OPC field stands for the opcode whose bits it holds, and no other. -/
theorem opcodeOfBits_eq_some {b : Byte} {o : Opcode} :
    opcodeOfBits b = some o ↔ b = opcodeBits o := by
  refine ⟨fun h => ?_, fun h => h ▸ opcodeOfBits_opcodeBits o⟩
  unfold opcodeOfBits at h
  split_ifs at h <;> cases h <;> assumption

/-- The OPC values of the map are the seven that R56 lists. -/
theorem exists_opcodeBits_iff (b : Byte) :
    (∃ o, opcodeBits o = b) ↔ b ∈ [0x01#8, 0x02#8, 0x10#8, 0x11#8, 0x20#8, 0x30#8, 0x40#8] := by
  refine ⟨fun ⟨o, h⟩ => h ▸ ?_, fun h => ?_⟩
  · cases o <;> decide
  · simp only [List.mem_cons, List.not_mem_nil, or_false] at h
    obtain h | h | h | h | h | h | h := h <;> rw [h]
    · exact ⟨.crc32, rfl⟩
    · exact ⟨.crc32c, rfl⟩
    · exact ⟨.newCrc32, rfl⟩
    · exact ⟨.newCrc32c, rfl⟩
    · exact ⟨.update, rfl⟩
    · exact ⟨.checksum, rfl⟩
    · exact ⟨.drop, rfl⟩

/-- The two primitive opcodes are those that name no context (R55). -/
theorem opcodeBits_primitive_iff (o : Opcode) :
    opcodeBits o ∈ [0x01#8, 0x02#8] ↔ Opcode.usesCtx o = false := by
  cases o <;> decide

/-- A command whose opcode names no context has context index 0 (R56). -/
theorem ctx_of_primitive {i : Instr} (h : Opcode.usesCtx i.opcode = false) : i.ctx = 0 := by
  cases i with
  | crc32 | crc32c => rfl
  | newCrc32 | newCrc32c | update | checksum | drop => cases h

/-- The opcodes that name a context are the other five (R55). -/
theorem opcodeBits_context_iff (o : Opcode) :
    opcodeBits o ∈ [0x10#8, 0x11#8, 0x20#8, 0x30#8, 0x40#8] ↔ Opcode.usesCtx o = true := by
  cases o <;> decide

/-! ## Decoding -/

/-- An opcode and a CTX field make the command that has them. -/
theorem assemble_opcode_ctx {i : Instr} {c : Byte} (h : c.toNat = i.ctx) :
    assemble i.opcode c = .command i := by
  cases i with
  | crc32 | crc32c =>
    have hc : c = 0#8 := BitVec.eq_of_toNat_eq h
    subst hc
    rfl
  | newCrc32 | newCrc32c | update | checksum | drop =>
    cases h
    rfl

/-- A CTX field is wrong for an opcode that names no context and for no other, where it must be 0
(R56). -/
theorem assemble_cases (o : Opcode) (c : Byte) :
    (Opcode.usesCtx o = false ∧ c ≠ 0#8 ∧ assemble o c = .illegal .ctxNotZero) ∨
    ((Opcode.usesCtx o = false → c = 0#8) ∧
      ∃ i : Instr, i.opcode = o ∧ i.ctx = c.toNat ∧ assemble o c = .command i) := by
  cases o with
  | crc32 =>
    by_cases hc : c = 0#8
    · exact .inr ⟨fun _ => hc, .crc32, rfl, by rw [hc]; rfl, if_pos hc⟩
    · exact .inl ⟨rfl, hc, if_neg hc⟩
  | crc32c =>
    by_cases hc : c = 0#8
    · exact .inr ⟨fun _ => hc, .crc32c, rfl, by rw [hc]; rfl, if_pos hc⟩
    · exact .inl ⟨rfl, hc, if_neg hc⟩
  | newCrc32 => exact .inr ⟨nofun, .newCrc32 _, rfl, rfl, rfl⟩
  | newCrc32c => exact .inr ⟨nofun, .newCrc32c _, rfl, rfl, rfl⟩
  | update => exact .inr ⟨nofun, .update _, rfl, rfl, rfl⟩
  | checksum => exact .inr ⟨nofun, .checksum _, rfl, rfl, rfl⟩
  | drop => exact .inr ⟨nofun, .drop _, rfl, rfl, rfl⟩

/-- With RSV = 0 and the OPC of an opcode, a word is what the opcode and its CTX field make. -/
theorem decode_of_fields {w : Word} {o : Opcode} (hr : rsvField w = 0#16)
    (ho : opcField w = opcodeBits o) : decode w = assemble o (ctxField w) := by
  simp [decode, hr, ho, opcodeOfBits_opcodeBits]

/-- What a word decodes to: one of the three errors that R56 names, or the command of its fields. -/
theorem decode_cases (w : Word) :
    (illegalWord w ∧ ∃ e, decode w = .illegal e) ∨
    (¬ illegalWord w ∧ ∃ i : Instr, rsvField w = 0#16 ∧ opcField w = opcodeBits i.opcode ∧
      (ctxField w).toNat = i.ctx ∧ decode w = .command i) := by
  by_cases hr : rsvField w = 0#16
  · by_cases ho : ∃ o, opcodeBits o = opcField w
    · obtain ⟨o, ho⟩ := ho
      have hmem := (exists_opcodeBits_iff (opcField w)).1 ⟨o, ho⟩
      rw [decode_of_fields hr ho.symm]
      rcases assemble_cases o (ctxField w) with ⟨hu, hc, h⟩ | ⟨hc, i, rfl, hctx, h⟩
      · exact .inl ⟨.inr (.inr ⟨ho ▸ (opcodeBits_primitive_iff o).2 hu, hc⟩), _, h⟩
      · refine .inr ⟨?_, i, hr, ho.symm, hctx.symm, h⟩
        rintro (h | h | ⟨h, hne⟩)
        · exact h hr
        · exact h hmem
        · exact hne (hc ((opcodeBits_primitive_iff _).1 (ho ▸ h)))
    · have hnone : opcodeOfBits (opcField w) = none :=
        Option.eq_none_iff_forall_ne_some.2 fun o h => ho ⟨o, (opcodeOfBits_eq_some.1 h).symm⟩
      exact .inl ⟨.inr (.inl fun h => ho ((exists_opcodeBits_iff _).2 h)), .unknownOpcode,
        by simp [decode, hr, hnone]⟩
  · exact .inl ⟨.inl hr, .reservedBits, by simp [decode, hr]⟩

/-- A word decodes to a command exactly when it has RSV = 0, the command's OPC, and its context
index as CTX (R53, R54, R55). -/
theorem decode_eq_command {w : Word} {i : Instr} :
    decode w = .command i ↔
      rsvField w = 0#16 ∧ opcField w = opcodeBits i.opcode ∧ (ctxField w).toNat = i.ctx := by
  refine ⟨fun h => ?_, fun ⟨hr, ho, hc⟩ => (decode_of_fields hr ho).trans (assemble_opcode_ctx hc)⟩
  rcases decode_cases w with ⟨_, e, he⟩ | ⟨_, j, hr, ho, hc, hj⟩
  · cases he.symm.trans h
  · cases hj.symm.trans h
    exact ⟨hr, ho, hc⟩

/-- The illegal words are those that decode to no command (R56). -/
theorem illegalWord_iff (w : Word) : illegalWord w ↔ ∀ i, decode w ≠ .command i := by
  rcases decode_cases w with ⟨hill, e, he⟩ | ⟨hleg, i, _, _, _, hi⟩
  · exact ⟨fun _ i hi => (nomatch he.symm.trans hi), fun _ => hill⟩
  · exact ⟨fun hill => absurd hill hleg, fun h => absurd hi (h i)⟩

/-! ## The rows of the opcode table (R55) -/

/-- The row of an opcode: OPC and RSV are matched, and CTX only where the opcode names no context. -/
def rowOf (o : Opcode) : OpcodeRow where
  opcode := o
  pattern := (0#16 ++ 0#8) ++ opcodeBits o
  mask := (0xFFFF#16 ++ if Opcode.usesCtx o then 0#8 else 0xFF#8) ++ 0xFF#8

/-- The table holds the row of each opcode and nothing else. -/
theorem mem_opcodeRows (r : OpcodeRow) : r ∈ opcodeRows ↔ r = rowOf r.opcode := by
  refine ⟨fun h => ?_, fun h => ?_⟩
  · have hall : ∀ q ∈ opcodeRows, q = rowOf q.opcode := by decide
    exact hall r h
  · rw [h]
    cases r.opcode <;> decide

/-- The mask of a row keeps all of RSV and OPC, and CTX where the opcode names no context. -/
theorem rowOf_mask_fields (o : Opcode) :
    rsvField (rowOf o).mask = BitVec.allOnes 16 ∧
    ctxField (rowOf o).mask = (if Opcode.usesCtx o then 0#8 else BitVec.allOnes 8) ∧
    opcField (rowOf o).mask = BitVec.allOnes 8 := by
  cases o <;> decide

/-- A row's test is a test of the three fields (R53, R66). -/
theorem rowOf_hits_iff (o : Opcode) (w : Word) :
    (rowOf o).hits w = true ↔
      rsvField w = 0#16 ∧ (Opcode.usesCtx o = false → ctxField w = 0#8) ∧
      opcField w = opcodeBits o := by
  obtain ⟨hr, hc, ho⟩ := fields_and w (rowOf o).mask
  obtain ⟨hmr, hmc, hmo⟩ := rowOf_mask_fields o
  obtain ⟨hpr, hpo, hpc⟩ := Laws.Fields.fields_of_append 0#8 (opcodeBits o)
  have hp : (rowOf o).pattern = (0#16 ++ 0#8) ++ opcodeBits o := rfl
  rw [OpcodeRow.hits, decide_eq_true_iff, word_eq_iff, hr, hc, ho, hmr, hmc, hmo, hp, hpr, hpo, hpc,
    BitVec.and_allOnes, BitVec.and_allOnes]
  cases Opcode.usesCtx o with
  | true => simp
  | false =>
    rw [if_neg Bool.false_ne_true, BitVec.and_allOnes]
    simp

/-- A row of the table matches a word exactly when the word is a command with the row's opcode. -/
theorem hits_iff_decode {r : OpcodeRow} (h : r ∈ opcodeRows) (w : Word) :
    r.hits w = true ↔ ∃ i : Instr, decode w = .command i ∧ i.opcode = r.opcode := by
  rw [(mem_opcodeRows r).1 h, rowOf_hits_iff]
  refine ⟨fun ⟨hr, hc, ho⟩ => ?_, fun ⟨i, hi, hopc⟩ => ?_⟩
  · rcases assemble_cases r.opcode (ctxField w) with ⟨hu, hne, _⟩ | ⟨_, i, hopc, _, hi⟩
    · exact absurd (hc hu) hne
    · exact ⟨i, (decode_of_fields hr ho).trans hi, hopc⟩
  · obtain ⟨hr, ho, hc⟩ := decode_eq_command.1 hi
    exact ⟨hr, fun hu => BitVec.eq_of_toNat_eq (hc.trans (ctx_of_primitive (hopc ▸ hu))), hopc ▸ ho⟩

end Sys2Proof.Machine

open Sys2Proof Sys2Proof.Machine

/-- Settles O1: the fields of a command's word are those that decode to it. -/
theorem decodeOfEncodeIsTheCommand : Obligations.DecodeOfEncodeIsTheCommand := by
  intro i hw
  obtain ⟨hr, ho, hc⟩ := Laws.Fields.of_instr i
  exact decode_eq_command.2 ⟨hr, ho, hc hw⟩

/-- Settles O2: a word that decodes to a command has its fields, and the word of the command too. -/
theorem encodeOfDecodeIsTheWord : Obligations.EncodeOfDecodeIsTheWord := by
  intro w i h
  obtain ⟨hr, ho, hc⟩ := decode_eq_command.1 h
  obtain ⟨hr', ho', _⟩ := Laws.Fields.of_instr i
  refine ⟨(word_eq_iff _ _).2 ⟨hr'.trans hr.symm, ?_, ho'.trans ho.symm⟩, ?_⟩
  · rw [ctxField_encode, ← hc, BitVec.ofNat_toNat, BitVec.setWidth_eq]
  · exact decide_eq_true (hc ▸ Nat.le_of_lt_succ (ctxField w).isLt)

/-- Settles O4: the seven words are decoded. -/
theorem sampleWordsDecode : Obligations.SampleWordsDecode := by
  unfold Obligations.SampleWordsDecode
  decide

end

section
/-! PROOF. Issue: an illegal word ends at issue, and a command's issue is that of R62 on its word (R56, R61, R62). -/

namespace Sys2Proof.Machine

/-! ## Illegal words -/

/-- An error at issue sets DONE and ERRCODE and changes nothing else (R100). -/
theorem raiseError_of_idle {s : State} (e : ErrCode) (hb : s.status.busy = false)
    (ha : s.op.active = false) :
    raiseError e s = { s with status := { s.status with done := true, errcode := e } } := by
  have hst : s.status.ended e = { s.status with done := true, errcode := e } := by
    simp [Status.ended, hb]
  rw [raiseError, hst, Latch.idle_of_inactive s.op ha]
  rfl

/-- An illegal word written to CMD is issued as one (R56). -/
theorem writeCmd_of_illegal {w : Word} (h : illegalWord w) (s : State) :
    writeCmd w s = .next (issueIllegal s) := by
  rcases decode_cases w with ⟨_, e, he⟩ | ⟨hleg, _⟩
  · simp [writeCmd, he]
  · exact absurd h hleg

/-- Written to an idle block it ends with ILLEGAL_CMD (R56). -/
theorem issueIllegal_of_idle {s : State} (hb : s.status.busy = false) :
    issueIllegal s = raiseError .illegalCmd s := by
  simp [issueIllegal, acceptCommand, hb]

/-- The first check of R61 fails on the illegal words. -/
theorem checkWord_of_illegal {w : Word} (h : illegalWord w) (s : State) :
    checkWord w s = .illegalCmd := by
  unfold checkWord
  rcases h with h | h | ⟨h, hc⟩
  · exact if_pos (.inl h)
  · exact if_pos (.inr h)
  · have hk : (ctxField w).toNat ≠ 0 := fun h0 => hc (BitVec.eq_of_toNat_eq h0)
    simp only
    split
    · rfl
    · exact if_pos ⟨h, hk⟩

/-- The illegal words are those that no row of the table matches (R66). -/
theorem illegalWord_iff_no_row (w : Word) : illegalWord w ↔ ∀ r ∈ opcodeRows, r.hits w = false := by
  rw [illegalWord_iff]
  refine ⟨fun h r hr => Bool.eq_false_iff.2 fun hh => ?_, fun h i hi => ?_⟩
  · obtain ⟨i, hi, _⟩ := (hits_iff_decode hr w).1 hh
    exact h i hi
  · have hrow : rowOf i.opcode ∈ opcodeRows := (mem_opcodeRows _).2 rfl
    exact absurd ((hits_iff_decode hrow w).2 ⟨i, hi, rfl⟩) (Bool.eq_false_iff.1 (h _ hrow))

/-- A word with RSV = 0 and an opcode that names a context is legal, whatever its CTX (R56). -/
theorem not_illegalWord_of_context {w : Word} (hr : rsvField w = 0#16)
    (ho : opcField w ∈ [0x10#8, 0x11#8, 0x20#8, 0x30#8, 0x40#8]) : ¬ illegalWord w := by
  have hdisjoint : ∀ b ∈ [0x01#8, 0x02#8], b ∉ [0x10#8, 0x11#8, 0x20#8, 0x30#8, 0x40#8] := by decide
  rintro (h | h | ⟨h, _⟩)
  · exact h hr
  · exact h (List.mem_cons_of_mem _ (List.mem_cons_of_mem _ ho))
  · exact hdisjoint _ h ho

/-! ## The issue of a command -/

/-- What accepts a command on `s` once its checks passed: the latch filled with its operands (R62). -/
def startOf (i : Instr) (s : State) : State → State :=
  match i with
  | .crc32 => startCommand (latchFor s .crc32 0 .crc32 (~~~ s.prev))
  | .crc32c => startCommand (latchFor s .crc32c 0 .crc32c (~~~ s.prev))
  | .update k => startCommand (latchFor s .update k (ctxAt s k).alg (~~~ (ctxAt s k).acc))
  | .newCrc32 k => startContext .newCrc32 k
  | .newCrc32c k => startContext .newCrc32c k
  | .checksum k => startContext .checksum k
  | .drop k => startContext .drop k

/-- A data command that a check refuses, or whose buffer is ordinary memory, is accepted (R44, R62). -/
theorem issueData_eq_accept {e : ErrCode} {o : Opcode} {k : Nat} {a : Alg} {S : Word} {s : State}
    (h : e ≠ .noError ∨ bufferHasSideEffects s = false) :
    issueData e o k a S s = .next (acceptCommand e (startCommand (latchFor s o k a S)) s) := by
  rcases issueData_cases e o k a S s with ⟨_, he, hse, _⟩ | ⟨_, hn⟩
  · rcases h with h | h
    · exact absurd he h
    · exact absurd (h.symm.trans hse) Bool.false_ne_true
  · exact hn

/-- But for a launch refused for its buffer (R44), a command is accepted by its checks. -/
theorem exec_eq_accept {i : Instr} {s : State}
    (h : firstError (Instr.checks i s) ≠ .noError ∨ bufferHasSideEffects s = false) :
    exec i s = .next (acceptCommand (firstError (Instr.checks i s)) (startOf i s) s) := by
  cases i with
  | newCrc32 | newCrc32c | checksum | drop => rfl
  | crc32 | crc32c | update => exact issueData_eq_accept h

/-- A command that a check refuses ends at issue, on an idle block (R62, R100). -/
theorem exec_of_failed_check {i : Instr} {s : State} (hb : s.status.busy = false)
    (he : firstError (Instr.checks i s) ≠ .noError) :
    exec i s = .next (raiseError (firstError (Instr.checks i s)) s) := by
  rw [exec_eq_accept (.inl he)]
  simp [acceptCommand, hb, he]

/-- A command on a context that the block has not fails the index check, which is its first (R61). -/
theorem firstError_checks_of_index {i : Instr} {s : State} (hu : Opcode.usesCtx i.opcode = true)
    (hk : s.params.nCtx ≤ i.ctx) : firstError (Instr.checks i s) = .badCtx := by
  cases i with
  | crc32 | crc32c => cases hu
  | newCrc32 k | newCrc32c k | update k | checksum k | drop k =>
    have hindex : checkIndex k s = .badCtx := if_pos hk
    simp [Instr.checks, firstError, hindex]

/-- The pseudocode's issue of a command whose checks passed starts it (R62). -/
theorem issueSpec_of_started {i : Instr} {s : State} (hw : i.wellFormed = true)
    (hb : s.status.busy = false) (hok : checkWord (encode i) s = .noError) :
    issueSpec (encode i) s = startOf i s s := by
  obtain ⟨_, hopc, hctx⟩ := Laws.Fields.of_instr i
  rw [issueSpec, hb, hok, hopc, hctx hw, ctxField_encode i]
  cases i <;> rfl

/-- The pseudocode's issue and the model's are one on any word, given the code of its checks and what
its start does (R62). -/
theorem issueSpec_eq_accept {w : Word} {e : ErrCode} {start : State → State} {s : State}
    (ha : s.op.active = s.status.busy) (he : checkWord w s = e)
    (hstart : s.status.busy = false → e = .noError → issueSpec w s = start s) :
    issueSpec w s = acceptCommand e start s := by
  rcases acceptCommand_cases e start s with ⟨hb, h⟩ | ⟨hb, hok, h⟩ | ⟨hb, hne, h⟩ <;> rw [h]
  · rw [issueSpec, if_pos hb]
    rfl
  · exact hstart hb hok
  · rw [raiseError_of_idle e hb (ha.trans hb), issueSpec, if_neg (by simp [hb]), he, if_pos hne]

/-! ## What issue leaves alone -/

/-- Issue writes no context. -/
theorem Issued.ctxs {s t : State} (h : Issued s t) : t.ctxs = s.ctxs := by
  cases h <;> rfl

/-- Issue writes no operand register and nothing outside the block (R62). -/
theorem Issued.frame {s t : State} (h : Issued s t) : OperandsKept s t ∧ OutsideKept s t := by
  cases h <;> exact ⟨.of_unchanged, .of_unchanged⟩

/-- Only a dropped word sets OVERRUN (R102). -/
theorem Issued.overrun {s t : State} (h : Issued s t) (hb : s.status.busy = false) :
    t.status.overrun = s.status.overrun := by
  cases h with
  | dropped hbusy => exact absurd (hb.symm.trans hbusy) Bool.false_ne_true
  | refused | started => rfl

end Sys2Proof.Machine

open Sys2Proof Sys2Proof.Machine

/-- Settles O3: a word that decodes to a command is the row of its opcode, any other is illegal. -/
theorem everyWordIsOneRowOrIllegal : Obligations.EveryWordIsOneRowOrIllegal := by
  intro w
  rcases decode_cases w with ⟨hill, hdec⟩ | ⟨hleg, i, _, _, _, hi⟩
  · refine .inr ⟨(illegalWord_iff_no_row w).1 hill, hill, hdec, fun s hb => ?_⟩
    exact ⟨_, writeCmd_of_illegal hill s, by rw [issueIllegal_of_idle hb]; rfl⟩
  · have hrow : rowOf i.opcode ∈ opcodeRows := (mem_opcodeRows _).2 rfl
    refine .inl ⟨⟨rowOf i.opcode, hrow, (hits_iff_decode hrow w).2 ⟨i, hi, rfl⟩, fun q hq hh => ?_,
      i, hi, rfl⟩, hleg⟩
    obtain ⟨j, hj, hopc⟩ := (hits_iff_decode hq w).1 hh
    cases hi.symm.trans hj
    rw [(mem_opcodeRows q).1 hq, hopc]

/-- Settles O5: the first check refuses an illegal word, and the index check a context the block has
not. -/
theorem illegalWordsEndAtIssue : Obligations.IllegalWordsEndAtIssue := by
  refine ⟨illegalWord_iff_no_row, fun w s hill hb ha => ?_, fun w s hr ho hk hb ha => ?_⟩
  · rw [writeCmd_of_illegal hill, issueIllegal_of_idle hb, raiseError_of_idle _ hb ha]
  · rcases decode_cases w with ⟨hill, _⟩ | ⟨hleg, i, _, hopc, hctx, hi⟩
    · exact absurd hill (not_illegalWord_of_context hr ho)
    · have hu := (opcodeBits_context_iff i.opcode).1 (hopc ▸ ho)
      have he : firstError (Instr.checks i s) = .badCtx := firstError_checks_of_index hu (hctx ▸ hk)
      have hne : firstError (Instr.checks i s) ≠ .noError := by simp [he]
      refine ⟨hleg, ?_⟩
      rw [writeCmd_of_command hi, exec_of_failed_check hb hne, he, raiseError_of_idle _ hb ha]

/-- Settles O6: an illegal word fails the first check of the pseudocode; any other is the word of its
command, whose checks and start are those of the pseudocode. -/
theorem issueRefinesPseudocode : Obligations.IssueRefinesPseudocode := by
  intro w s ha hse
  rcases decode_cases w with ⟨hill, _⟩ | ⟨_, i, _, _, _, hi⟩
  · have he := checkWord_of_illegal hill s
    rw [writeCmd_of_illegal hill, issueSpec_eq_accept (start := id) ha he nofun]
    rfl
  · obtain ⟨rfl, hw⟩ := encodeOfDecodeIsTheWord w i hi
    have he := checkWord_encode hw s
    rw [writeCmd_of_command hi, exec_eq_accept (.inr hse), issueSpec_eq_accept ha he fun hb hok =>
      issueSpec_of_started hw hb (he.trans hok)]

/-- Settles O10: none of the three things an issue can do writes what the frame names. -/
theorem issueFrame : Obligations.IssueFrame := by
  intro i s t h
  have hi : Issued s t := exec_issued h
  obtain ⟨hoperands, houtside⟩ := hi.frame
  exact ⟨hi.result, hi.ctxs, hoperands, houtside, hi.overrun⟩

end

section
/-! PROOF. Block steps: both engines make one byte step, and a command in flight comes to its end (R60, R63, R65, R72). -/

namespace Sys2Proof.Machine

/-! ## The byte step of both engines (R72, R75, R79) -/

/-- A word's upper 24 bits and its low byte, put together again. -/
theorem shiftLeft_xor_low (x : Word) : ((x >>> 8) <<< 8) ^^^ (x.setWidth 8).setWidth 32 = x := by
  apply BitVec.eq_of_getLsbD_eq
  intro i hi
  by_cases h : i < 8
  · simp [h, hi]
  · have hle : 8 + (i - 8) = i := by omega
    simp [h, hi, hle]

/-- The table step is the bit-serial step (R72): the bit steps are linear, they shift the upper 24 bits
out, and the table holds what they make of the low byte. -/
theorem tableByte_eq_serialByte (a : Alg) (S : Word) (b : Byte) :
    tableByte a S b = serialByte (poly a) S b := by
  have hlow : (b.setWidth 32) >>> 8 = 0#32 := by
    apply BitVec.eq_of_getLsbD_eq
    intro i hi
    simp
  have hhigh (x : Word) : bitSteps (poly a) 8 ((x >>> 8) <<< 8) = x >>> 8 := by
    rw [bitSteps_of_low_zero _ _ _ fun i hi => by simp [hi]]
    bv_omega
  generalize hx : S ^^^ b.setWidth 32 = x
  have hS : S >>> 8 = x >>> 8 := by
    rw [← hx, BitVec.ushiftRight_xor_distrib, hlow, BitVec.xor_zero]
  calc tableByte a S b = (x >>> 8) ^^^ tableEntry a (x.setWidth 8) := by rw [tableByte, hx, hS]
    _ = bitSteps (poly a) 8 (((x >>> 8) <<< 8) ^^^ (x.setWidth 8).setWidth 32) := by
      rw [bitSteps_xor, hhigh, tableEntry]
    _ = serialByte (poly a) S b := by rw [shiftLeft_xor_low, serialByte, hx]

/-- Whichever engine is chosen, a byte step is `byte_step` (R72, R75, R79). -/
theorem engineByte_eq_byteStep (serial : Bool) (a : Alg) (S : Word) (b : Byte) :
    engineByte serial a S b = byteStep a S b := by
  cases serial with
  | true => exact (tableByte_eq_serialByte a S b).symm
  | false => rfl

/-! ## One block step -/

theorem moreBytes_iff (s : State) :
    moreBytes s = true ↔ s.op.opc.isData = true ∧ s.op.idx.toNat < s.op.len.toNat := by
  simp [moreBytes]

/-- A byte that is admitted is consumed (R63). -/
theorem blockStep_of_byte {s : State} {b : Byte} (ha : s.op.active = true)
    (hmore : moreBytes s = true) (hread : memRead s (nextAddr s) = some b) :
    blockStep s = (s.setOp (s.op.consume b)).setDraws (s.draws + 1) := by
  simp [blockStep, ha, hmore, hread]

/-- A byte that is refused raises BUS_ERROR (R63). -/
theorem blockStep_of_refused {s : State} (ha : s.op.active = true) (hmore : moreBytes s = true)
    (hread : memRead s (nextAddr s) = none) : blockStep s = raiseError .busError s := by
  simp [blockStep, ha, hmore, hread]

/-- With no bytes left the step is the completion (R63). -/
theorem blockStep_of_no_bytes {s : State} (ha : s.op.active = true) (hmore : moreBytes s = false) :
    blockStep s = complete s := by
  simp [blockStep, ha, hmore]

/-! ## The end of a command in flight (R65) -/

/-- The bytes that the command in flight has still to read. -/
def remaining (s : State) : Nat := s.op.len.toNat - s.op.idx.toNat

/-- Each block step ends the command in flight or brings it one byte nearer to its end. -/
theorem blockStep_progress {s : State} (ha : s.op.active = true) :
    ((blockStep s).op.active = false ∧ (blockStep s).status.busy = false) ∨
    ((blockStep s).op.active = true ∧ (blockStep s).status = s.status ∧
      remaining (blockStep s) + 1 = remaining s) := by
  rcases blockStep_cases s with ⟨hn, _⟩ | ⟨_, hmore, b, _, he⟩ | ⟨_, _, _, he⟩ | ⟨_, _, he⟩
  · exact absurd (ha.symm.trans hn) Bool.noConfusion
  · obtain ⟨_, hlt⟩ := (moreBytes_iff s).1 hmore
    rw [he]
    refine .inr ⟨ha, rfl, ?_⟩
    show s.op.len.toNat - (s.op.idx + 1#32).toNat + 1 = s.op.len.toNat - s.op.idx.toNat
    bv_omega
  · rw [he]
    exact .inl ⟨rfl, rfl⟩
  · rw [he, complete_op, complete_status]
    exact .inl ⟨rfl, rfl⟩

/-- A command in flight ends within one block step more than it has bytes left. -/
theorem blockRun_ends {s : State} (ha : s.op.active = true) :
    ∃ n, n ≤ remaining s + 1 ∧ (blockRun n s).op.active = false := by
  induction hm : remaining s using Nat.strong_induction_on generalizing s with
  | _ m ih =>
    rcases blockStep_progress ha with ⟨hend, _⟩ | ⟨hnext, _, hless⟩
    · exact ⟨1, by omega, hend⟩
    · obtain ⟨n, hn, hend⟩ := ih _ (by omega) hnext rfl
      exact ⟨n + 1, by omega, hend⟩

/-! ## A host that waits (R60) -/

/-- Running the machine for one step more begins with a step. -/
theorem core_run_succ {s t : State} (h : step s = .next t) (n : Nat) :
    Host.Core.run Sys2Proof.core (n + 1) s = Host.Core.run Sys2Proof.core n t := by
  have hcore : Sys2Proof.core.step s = .next t := h
  simp only [Host.Core.run, hcore]

/-- A host that waits on a BUSY block has no move, so the step is the block's. -/
theorem step_of_waiting {s : State} {rest : List HostOp} (ha : s.op.active = true)
    (hb : s.status.busy = true) (hs : s.host = .wait :: rest) :
    step s = .next (blockStep (s.setSched s.sched.tail)) := by
  have hr : hostReady s = false := by simp [hostReady, hs, hb]
  simp [step, advance, ha, hr]

/-- A wait that finds the block not BUSY is taken off the list. -/
theorem step_of_wait_over {s : State} {rest : List HostOp} (ha : s.op.active = false)
    (hb : s.status.busy = false) (hs : s.host = .wait :: rest) : step s = .next (s.setHost rest) := by
  have hr : hostReady s = true := by simp [hostReady, hs, hb]
  rw [step_of_inactive ha hr]
  simp [hostStep, hs, hostOp]

/-- `t` is idle, and the host has its accesses `rest` left. -/
structure WaitOver (rest : List HostOp) (t : State) : Prop where
  notBusy  : t.status.busy = false
  inactive : t.op.active = false
  host     : t.host = rest

/-- A wait is over within two steps more than the command in flight has bytes left. -/
theorem run_wait_ends {s : State} {rest : List HostOp} (ha : s.op.active = true)
    (hb : s.status.busy = true) (hs : s.host = .wait :: rest) :
    ∃ n, n ≤ remaining s + 2 ∧
      ∃ t, Host.Core.run Sys2Proof.core n s = .next t ∧ WaitOver rest t := by
  induction hm : remaining s using Nat.strong_induction_on generalizing s with
  | _ m ih =>
    obtain ⟨_, houtside, _, _⟩ := blockStepFrame (s.setSched s.sched.tail)
    have hhost : (blockStep (s.setSched s.sched.tail)).host = .wait :: rest := houtside.host.trans hs
    have hstep := step_of_waiting ha hb hs
    rcases blockStep_progress (s := s.setSched s.sched.tail) ha with
      ⟨hidle, hfree⟩ | ⟨hnext, hstatus, hless⟩
    · refine ⟨2, by omega, (blockStep (s.setSched s.sched.tail)).setHost rest, ?_, hfree, hidle, rfl⟩
      rw [core_run_succ hstep, core_run_succ (step_of_wait_over hidle hfree hhost)]
      rfl
    · have hm' : remaining (s.setSched s.sched.tail) = m := hm
      obtain ⟨n, hn, t, hrun, ht⟩ := ih _ (by omega) hnext (hstatus ▸ hb) hhost rfl
      exact ⟨n + 1, by omega, t, (core_run_succ hstep n).trans hrun, ht⟩

end Sys2Proof.Machine

open Sys2Proof Sys2Proof.Machine

/-- Settles O11, by the three things a block step in flight can do. -/
theorem blockStepFollowsPseudocode : Obligations.BlockStepFollowsPseudocode := by
  refine fun s ha => ⟨fun hd hlt => ⟨fun b hread => ?_, fun hread => ?_⟩, fun hno => ?_⟩
  · rw [blockStep_of_byte ha ((moreBytes_iff s).2 ⟨hd, hlt⟩) hread,
      ← engineByte_eq_byteStep s.op.serial]
    exact ⟨rfl, rfl, rfl, rfl⟩
  · exact blockStep_of_refused ha ((moreBytes_iff s).2 ⟨hd, hlt⟩) hread
  · exact blockStep_of_no_bytes ha (Bool.eq_false_iff.2 fun hmore => hno ((moreBytes_iff s).1 hmore))

/-- Settles O13: no command has more bytes left than OP.len. -/
theorem commandEndsWithinLenPlusOne : Obligations.CommandEndsWithinLenPlusOne := by
  intro s ha
  obtain ⟨n, hn, hend⟩ := blockRun_ends ha
  exact ⟨n, hn.trans (Nat.succ_le_succ (Nat.sub_le _ _)), hend⟩

/-- Settles O14: the wait is over once the command in flight has ended, and the host takes it off. -/
theorem waitEnds : Obligations.WaitEnds := by
  intro s rest ha hb hs
  obtain ⟨n, hn, t, hrun, ht⟩ := run_wait_ends ha hb hs
  exact ⟨n, hn.trans (Nat.add_le_add_right (Nat.sub_le _ _) 2), t, hrun, ht.notBusy, ht.inactive,
    ht.host⟩

end

section
/-! PROOF. The CRC arithmetic: the byte steps over a buffer are linear, and every wider engine gives their value (R68 to R78, R82 to R85). -/

namespace Sys2Proof.Machine

/-! ## The byte steps over a buffer (R76) -/

/-- `F` over a concatenation goes on from the state after its first part (R83). -/
@[simp] theorem crcFold_append (a : Alg) (S : Word) (x y : List Byte) :
    crcFold a S (x ++ y) = crcFold a (crcFold a S x) y := by
  induction x generalizing S with
  | nil => rfl
  | cons b x ih => exact ih (byteStep a S b)

/-! ## Linearity (R84) -/

/-- A byte step is linear in the state and the byte jointly. -/
theorem byteStep_xor (a : Alg) (S S' : Word) (b b' : Byte) :
    byteStep a (S ^^^ S') (b ^^^ b') = byteStep a S b ^^^ byteStep a S' b' := by
  simp only [byteStep, tableByte_eq_serialByte, serialByte, ← bitSteps_xor]
  congr 1
  rw [BitVec.setWidth_xor]
  ac_rfl

/-- `F` is linear in the state and the bytes jointly. -/
theorem crcFold_zipWith_xor (a : Alg) (x y : List Byte) (h : x.length = y.length) (S S' : Word) :
    crcFold a (S ^^^ S') (List.zipWith (· ^^^ ·) x y) = crcFold a S x ^^^ crcFold a S' y := by
  induction x generalizing y S S' with
  | nil =>
    obtain rfl := List.length_eq_zero_iff.1 h.symm
    rfl
  | cons b x ih =>
    cases y with
    | nil => cases h
    | cons b' y =>
      simp only [List.zipWith_cons_cons, crcFold_cons, byteStep_xor]
      exact ih y (Nat.succ.inj h) _ _

/-- The two complements of a CRC cancel over three terms (R84). -/
theorem not_xor_xor (p q r : Word) : ~~~ (p ^^^ q ^^^ r) = ~~~ p ^^^ ~~~ q ^^^ ~~~ r := by
  have hpair : ~~~ q ^^^ ~~~ r = q ^^^ r := by
    rw [← BitVec.not_xor_left, ← BitVec.not_xor_right, BitVec.not_not]
  rw [BitVec.not_xor_left, BitVec.not_xor_left, BitVec.xor_assoc, BitVec.xor_assoc, hpair]

/-- A part of the state goes through the fold apart from the rest, as over bytes 0. -/
theorem crcFold_xor_left (a : Alg) (S S' : Word) (d : List Byte) :
    crcFold a (S ^^^ S') d = crcFold a S (List.replicate d.length 0#8) ^^^ crcFold a S' d := by
  induction d generalizing S S' with
  | nil => rfl
  | cons b d ih =>
    have hstep : byteStep a (S ^^^ S') b = byteStep a S 0#8 ^^^ byteStep a S' b := by
      rw [← byteStep_xor, BitVec.zero_xor]
    rw [crcFold_cons, hstep, ih]
    rfl

/-! ## The wide register (R74) -/

/-- A bit step on a state that a wider register holds in its low bits. -/
theorem bitStep_setWidth {n : Nat} (hn : 32 ≤ n) (P S : Word) :
    bitStep (P.setWidth n) (S.setWidth n) = (bitStep P S).setWidth n := by
  have hlow : (S.setWidth n).getLsbD 0 = S.getLsbD 0 := by
    have : 0 < n := by omega
    simp [this]
  unfold bitStep
  rw [hlow, ← BitVec.setWidth_ushiftRight hn]
  split
  · rw [BitVec.setWidth_xor]
  · rfl

/-- Any number of bit steps stays in the low bits of the wider register. -/
theorem bitSteps_setWidth {n : Nat} (hn : 32 ≤ n) (P S : Word) (k : Nat) :
    bitSteps (P.setWidth n) k (S.setWidth n) = (bitSteps P k S).setWidth n := by
  induction k generalizing S with
  | zero => rfl
  | succ k ih => rw [bitSteps, bitStep_setWidth hn, ih, bitSteps]

/-- Bytes assembled little-endian take up eight bits each, and the bits above are clear. -/
theorem getLsbD_loadLE_of_le {n : Nat} (d : List Byte) {i : Nat} (h : 8 * d.length ≤ i) :
    (loadLE n d).getLsbD i = false := by
  induction d generalizing i with
  | nil => simp [loadLE]
  | cons b d ih =>
    simp only [List.length_cons] at h
    simp [loadLE, ih (i := i - 8) (by omega), BitVec.getLsbD_of_ge b i (by omega)]

/-- The first byte of a little-endian word is its low one, beside the others shifted up. -/
theorem loadLE_cons_eq_xor {n : Nat} (b : Byte) (d : List Byte) :
    loadLE n (b :: d) = b.setWidth n ^^^ (loadLE n d <<< 8) := by
  apply BitVec.eq_of_getLsbD_eq
  intro i hi
  by_cases h : i < 8
  · simp [loadLE, h]
  · simp [loadLE, h, BitVec.getLsbD_of_ge b i (by omega)]

/-- Eight bit steps shift the bytes above the first back down. -/
theorem bitSteps_loadLE_shift {n : Nat} (P : BitVec n) (d : List Byte) (h : 8 * (d.length + 1) ≤ n) :
    bitSteps P 8 (loadLE n d <<< 8) = loadLE n d := by
  rw [bitSteps_of_low_zero _ _ _ fun i hi => by simp [hi]]
  apply BitVec.eq_of_getLsbD_eq
  intro i hi
  rw [BitVec.getLsbD_ushiftRight, BitVec.getLsbD_shiftLeft]
  by_cases hlt : 8 + i < n
  · simp [hlt]
  · simp [hlt, getLsbD_loadLE_of_le d (i := i) (by omega)]

/-- Bit steps on the little-endian word of a buffer XORed into the state are the byte steps over the
buffer: the first byte's eight steps leave the other bytes as they are, eight places down. -/
theorem bitSteps_loadLE {n : Nat} (hn : 32 ≤ n) (a : Alg) (d : List Byte) (S : Word)
    (h : 8 * d.length ≤ n) :
    bitSteps ((poly a).setWidth n) (8 * d.length) (S.setWidth n ^^^ loadLE n d) =
      (crcFold a S d).setWidth n := by
  induction d generalizing S with
  | nil => simp [bitSteps, loadLE]
  | cons b d ih =>
    have hb : S.setWidth n ^^^ b.setWidth n = (S ^^^ b.setWidth 32).setWidth n := by
      rw [BitVec.setWidth_xor, BitVec.setWidth_setWidth (by omega)]
    have hlen : 8 * (b :: d).length = 8 + 8 * d.length := by simp; omega
    rw [hlen] at h ⊢
    calc bitSteps ((poly a).setWidth n) (8 + 8 * d.length) (S.setWidth n ^^^ loadLE n (b :: d))
        = bitSteps ((poly a).setWidth n) (8 * d.length)
            ((bitSteps (poly a) 8 (S ^^^ b.setWidth 32)).setWidth n ^^^ loadLE n d) := by
          rw [bitSteps_add, loadLE_cons_eq_xor, ← BitVec.xor_assoc, hb, bitSteps_xor,
            bitSteps_setWidth hn, bitSteps_loadLE_shift _ _ (by omega)]
      _ = (crcFold a (serialByte (poly a) S b) d).setWidth n := ih _ (by omega)
      _ = (crcFold a S (b :: d)).setWidth n := by rw [← tableByte_eq_serialByte]; rfl

/-- A word fold over the little-endian word is the byte steps (R77). -/
theorem foldWord_loadLE {m : Nat} (hm : 4 ≤ m) (S : Word) {d : List Byte} (h : d.length = m) :
    foldWord m S (loadLE (8 * m) d) = crcFold .crc32c S d := by
  subst h
  rw [foldWord, bitSteps_loadLE (by omega) .crc32c d S le_rfl,
    BitVec.setWidth_setWidth_of_le _ (by omega)]
  exact BitVec.setWidth_eq _

/-! ## Slices (R73) -/

/-- The four bytes of a word, assembled again (R47). -/
theorem loadLE_wordBytes (X : Word) : loadLE 32 (wordBytes X) = X := by
  apply BitVec.eq_of_getLsbD_eq
  intro i hi
  simp only [loadLE, wordBytes]
  interval_cases i <;> simp

/-- The table `T_j` is what `j` byte steps over 0 make of `T_0`. -/
theorem sliceEntry_eq_crcFold (a : Alg) (j : Nat) (n : Byte) :
    sliceEntry a j n = crcFold a (tableEntry a n) (List.replicate j 0#8) := by
  induction j with
  | zero => rfl
  | succ j ih =>
    rw [List.replicate_succ', crcFold_append, ← ih]
    simp [sliceEntry, byteStep, tableByte]

/-- The XOR of the slice tables' entries is what the byte steps make of the state 0: each byte goes
through the steps over the later ones apart from them. -/
theorem sliceXor_eq_crcFold (a : Alg) (d : List Byte) : sliceXor a d = crcFold a 0#32 d := by
  induction d with
  | nil => rfl
  | cons b d ih =>
    have hfirst : byteStep a 0#32 b = tableEntry a b ^^^ 0#32 := by
      simp [byteStep, tableByte]
    rw [sliceXor, ih, sliceEntry_eq_crcFold, crcFold_cons, hfirst, crcFold_xor_left]

/-- Four byte steps see the state and the bytes only through their XOR. -/
theorem crcFold_four (a : Alg) (S : Word) {d : List Byte} (h : d.length = 4) :
    crcFold a S d = crcFold a 0#32 (wordBytes (S ^^^ loadLE 32 d)) := by
  have hword (T : Word) {e : List Byte} (he : e.length = 4) :
      crcFold a T e = bitSteps (poly a) 32 (T ^^^ loadLE 32 e) := by
    have := bitSteps_loadLE le_rfl a e T (by omega)
    rw [he] at this
    simpa using this.symm
  rw [hword S h, hword 0#32 rfl, loadLE_wordBytes, BitVec.zero_xor]

/-- A slice step is the byte steps over its bytes (R73). -/
theorem sliceStep_eq_crcFold (a : Alg) (S : Word) {d : List Byte} (h : 4 ≤ d.length) :
    sliceStep a S d = crcFold a S d := by
  have htake : (d.take 4).length = 4 := by simp [h]
  calc sliceStep a S d
      = crcFold a (crcFold a S (d.take 4)) (d.drop 4) := by
        rw [sliceStep, sliceXor_eq_crcFold, crcFold_append, crcFold_four a S htake]
    _ = crcFold a S d := by rw [← crcFold_append, List.take_append_drop]

/-! ## Any engine (R78) -/

/-- An admitted move over its bytes is the byte steps over them (R72, R73, R77). -/
theorem EngineMove.run_eq_crcFold {bld : Build} {a : Alg} {serial : Bool} {m : EngineMove}
    (hm : m.admitted bld a serial = true) (S : Word) {d : List Byte} (hd : d.length = m.bytes) :
    m.run a S d = crcFold a S d := by
  cases m with
  | serial =>
    obtain ⟨b, rfl⟩ := List.length_eq_one_iff.1 hd
    exact (tableByte_eq_serialByte a S b).symm
  | table =>
    obtain ⟨b, rfl⟩ := List.length_eq_one_iff.1 hd
    rfl
  | fold4 =>
    obtain ⟨⟨_, rfl⟩, _⟩ : (serial = false ∧ a = .crc32c) ∧ bld.crc32cFold = .four := by
      simpa [EngineMove.admitted] using hm
    exact foldWord_loadLE le_rfl S hd
  | fold8 =>
    obtain ⟨⟨_, rfl⟩, _⟩ : (serial = false ∧ a = .crc32c) ∧ bld.crc32cFold = .eight := by
      simpa [EngineMove.admitted] using hm
    exact foldWord_loadLE (by decide) S hd
  | slice8 => exact sliceStep_eq_crcFold a S (by rw [hd]; decide)
  | slice16 => exact sliceStep_eq_crcFold a S (by rw [hd]; decide)

/-- Any split of a buffer among admitted moves gives `F` over it (R42, R78). -/
theorem engineRun_eq_crcFold {bld : Build} {a : Alg} {serial : Bool} {ms : List EngineMove}
    {S S' : Word} {d : List Byte} (hms : ∀ m ∈ ms, m.admitted bld a serial = true)
    (h : engineRun a ms S d = some S') :
    S' = crcFold a S d := by
  induction ms generalizing S d with
  | nil =>
    cases d with
    | nil => exact (Option.some.inj h).symm
    | cons b d => cases h
  | cons m ms ih =>
    obtain ⟨hm, hms⟩ := List.forall_mem_cons.1 hms
    rw [engineRun] at h
    split at h
    · rename_i hle
      rw [ih hms h, EngineMove.run_eq_crcFold hm S (List.length_take_of_le hle), ← crcFold_append,
        List.take_append_drop]
    · cases h

/-! ## The bit that forces the serial engine (R75, R78) -/

/-- The command in flight with `OP.serial` set to `b`. -/
def State.setSerial (s : State) (b : Bool) : State := s.setOp { s.op with serial := b }

/-- No completion reads `OP.serial`. -/
theorem complete_setSerial (s : State) (b : Bool) :
    complete (s.setSerial b) = (complete s).setSerial b := by
  unfold complete ownWrites
  have hopc : (s.setSerial b).op.opc = s.op.opc := rfl
  rw [hopc]
  cases s.op.opc <;> rfl

/-- A block step does the same whatever `OP.serial` is: the byte step is one for both engines. -/
theorem blockStep_setSerial (s : State) (b : Bool) :
    blockStep (s.setSerial b) = (blockStep s).setSerial b := by
  rcases blockStep_cases s with ⟨ha, he⟩ | ⟨ha, hmore, c, hread, he⟩ | ⟨ha, hmore, hread, he⟩ |
    ⟨ha, hmore, he⟩ <;> rw [he]
  · exact blockStep_of_inactive _ ha
  · rw [blockStep_of_byte (s := s.setSerial b) ha hmore hread]
    simp only [State.setSerial, Latch.consume, engineByte_eq_byteStep]
    rfl
  · exact blockStep_of_refused (s := s.setSerial b) ha hmore hread
  · rw [blockStep_of_no_bytes (s := s.setSerial b) ha hmore, complete_setSerial]

theorem blockRun_setSerial (n : Nat) (s : State) (b : Bool) :
    blockRun n (s.setSerial b) = (blockRun n s).setSerial b := by
  induction n generalizing s with
  | zero => rfl
  | succ n ih => rw [blockRun, blockStep_setSerial, ih, blockRun]

end Sys2Proof.Machine

open Sys2Proof Sys2Proof.Machine

/-- Settles O42: the bit steps shift out the upper 24 bits and the table holds what they make of the
low byte. -/
theorem tableStepIsSerialStep : Obligations.TableStepIsSerialStep := tableByte_eq_serialByte

/-- Settles O43: each slice table is byte steps over 0, which linearity puts together. -/
theorem sliceStepIsByteSteps : Obligations.SliceStepIsByteSteps := fun a S _ h => sliceStep_eq_crcFold a S h

/-- Settles O44, on the wide register; the two big-endian words are those of the byte 1 followed by
bytes 0, from the state 0. -/
theorem wordFoldIsByteSteps : Obligations.WordFoldIsByteSteps := by
  refine ⟨fun S d => foldWord_loadLE le_rfl S, fun S d => foldWord_loadLE (by decide) S, ?_, ?_⟩
  · exact ⟨0#32, [1#8, 0#8, 0#8, 0#8], rfl, by decide +kernel⟩
  · exact ⟨0#32, [1#8, 0#8, 0#8, 0#8, 0#8, 0#8, 0#8, 0#8], rfl, by decide +kernel⟩

/-- Settles O45, by induction over the moves, and by the one byte step of both engines. -/
theorem everyEngineGivesTheSameValue : Obligations.EveryEngineGivesTheSameValue :=
  ⟨fun _ _ _ _ _ _ _ => engineRun_eq_crcFold, blockRun_setSerial⟩

/-- Settles O47: the complement at the end of the first part and that at the start of the second cancel. -/
theorem crcContinues : Obligations.CrcContinues := by
  intro a prev x y
  simp only [crc, crcFold_append, BitVec.not_not]

/-- Settles O49, by evaluating the four CRCs. -/
theorem checkValues : Obligations.CheckValues := by
  refine ⟨?_, ?_, ?_, ?_⟩ <;> decide +kernel

/-- Settles O48: `F` is linear in the state and the bytes jointly, and the complements cancel over three
terms; the two orders are evaluated. -/
theorem crcIsAffine : Obligations.CrcIsAffine := by
  refine ⟨fun a x y z p q r hxy hyz => ?_, checkValues.1, by decide +kernel⟩
  have hxyz : (List.zipWith (· ^^^ ·) x y).length = z.length := by
    rw [List.length_zipWith, hxy, Nat.min_self, hyz]
  simp only [crc, not_xor_xor, crcFold_zipWith_xor a _ _ hxyz, crcFold_zipWith_xor a _ _ hxy]

/-- Settles O40, by evaluating the two reversals. -/
theorem polynomialsAreReflected : Obligations.PolynomialsAreReflected := by
  refine ⟨rfl, rfl, ?_, ?_⟩ <;> decide +kernel

/-- Settles O41: a zero byte leaves the index as the state; the anchors are evaluated. -/
theorem tablesHoldTheAnchors : Obligations.TablesHoldTheAnchors := by
  refine ⟨fun a n => ?_, ?_, ?_, ?_, ?_, ?_, ?_⟩
  · simp [tableEntry, serialByte]
  all_goals decide

/-- Settles O46: the two complements cancel. -/
theorem crcOfNothingIsPrev : Obligations.CrcOfNothingIsPrev := fun _ _ => BitVec.not_not

end

section
/-! PROOF. The primitive commands from issue to completion: RESULT is the CRC of the buffer, continuing from PREV (R62 to R64, R76, R80, R81). -/

namespace Sys2Proof.Machine

/-- The bytes that a command consumes are folded into its engine state as `F` says (R76). -/
theorem foldl_engineByte (serial : Bool) (a : Alg) (S : Word) (d : List Byte) :
    d.foldl (engineByte serial a) S = crcFold a S d := by
  induction d generalizing S with
  | nil => rfl
  | cons b d ih => rw [List.foldl_cons, engineByte_eq_byteStep, ih, crcFold_cons]

/-- Block steps that read all bytes of a command are followed by its completion (R63). -/
theorem blockRun_succ_of_all_read {n : Nat} {s t : State} (h : blockRun n s = t)
    (ha : t.op.active = true) (hidx : t.op.idx = t.op.len) : blockRun (n + 1) s = complete t := by
  rw [blockRun_add, h]
  exact blockStep_of_no_bytes ha (by simp [moreBytes, hidx])

/-- On a ready buffer a data command has read all its bytes after LEN block steps (R63). -/
theorem BufferReady.blockRun_len {s : State} {d : List Byte} (h : BufferReady s d) {o : Opcode}
    (ho : o.isData = true) (k : Nat) (a : Alg) (S : Word) :
    ∃ n, blockRun s.len.toNat (startCommand (latchFor s o k a S) s) =
      (startCommand { latchFor s o k a (crcFold a S d) with idx := s.len } s).setDraws n := by
  have hlen : d.length = s.len.toNat := Memory.bytes?_length _ _ _ _ h.bytes
  obtain ⟨n, hn⟩ := blockRun_bytes d (startCommand (latchFor s o k a S) s) rfl ho rfl
    (by simpa [startCommand, latchFor] using hlen.le)
    (by simpa [startCommand, latchFor, hlen] using h.bytes)
  have hidx : (startCommand (latchFor s o k a S) s).op.idx + BitVec.ofNat 32 s.len.toNat = s.len := by
    simp [startCommand, latchFor]
  rw [hlen, foldl_engineByte, hidx] at hn
  exact ⟨n, hn⟩

/-- On a ready buffer a data command completes in LEN + 1 block steps, its engine state the fold of
the buffer's bytes (R63, R64). -/
theorem BufferReady.blockRun_completes {s : State} {d : List Byte} (h : BufferReady s d) {o : Opcode}
    (ho : o.isData = true) (k : Nat) (a : Alg) (S : Word) :
    ∃ n, blockRun (s.len.toNat + 1) (startCommand (latchFor s o k a S) s) =
      complete ((startCommand { latchFor s o k a (crcFold a S d) with idx := s.len } s).setDraws n) := by
  obtain ⟨n, hn⟩ := h.blockRun_len ho k a S
  exact ⟨n, blockRun_succ_of_all_read hn rfl rfl⟩

theorem OperandsKept.trans {s t u : State} (h : OperandsKept s t) (h' : OperandsKept t u) :
    OperandsKept s u :=
  ⟨h'.params.trans h.params, h'.forceSerial.trans h.forceSerial, h'.prev.trans h.prev,
    h'.addrLo.trans h.addrLo, h'.addrHi.trans h.addrHi, h'.len.trans h.len⟩

theorem OutsideKept.trans {s t u : State} (h : OutsideKept s t) (h' : OutsideKept t u) :
    OutsideKept s u :=
  ⟨fun a => (h'.bytes a).trans (h.bytes a), h'.sideEffects.trans h.sideEffects, h'.host.trans h.host,
    h'.reads.trans h.reads, h'.sched.trans h.sched⟩

/-- A command that started on `s` and completes ends in success, and leaves all but RESULT and the
contexts as before (R64). -/
theorem complete_endedWell (s : State) (o : Latch) (n : Nat) :
    EndedWell s (complete ((startCommand o s).setDraws n)) := by
  obtain ⟨hoperands, houtside⟩ := complete_frame ((startCommand o s).setDraws n)
  refine ⟨complete_status _, ?_, OperandsKept.trans .of_unchanged hoperands,
    OutsideKept.trans .of_unchanged houtside⟩
  rw [complete_op]
  rfl

/-- On a ready buffer the primitive command of an algorithm starts (R61, R62). -/
theorem BufferReady.exec_primitive {s : State} {d : List Byte} (h : BufferReady s d) (a : Alg) :
    exec (primitiveOf a) s =
      .next (startCommand (latchFor s (primitiveOf a).opcode 0 a (~~~ s.prev)) s) := by
  have hchecks : firstError [checkLen s, checkAddr s] = .noError := by
    simp [firstError_eq_noError, checkLen_iff, checkAddr_iff, h.lenOk, h.addrOk]
  cases a with
  | crc32 | crc32c =>
    rw [primitiveOf, exec_eq_accept (.inr h.ordinary)]
    simp [acceptCommand, h.notBusy, Instr.checks, hchecks, startOf, Instr.opcode]

/-- On a ready buffer the primitive command of an algorithm writes the CRC of the buffer, continuing
from PREV, to RESULT (R80, R81). -/
theorem BufferReady.primitive_computes {s : State} {d : List Byte} (h : BufferReady s d) (a : Alg) :
    ∃ t, exec (primitiveOf a) s = .next t ∧ t.status.busy = true ∧ t.status.done = false ∧
      t.result = s.result ∧
      EndedWell s (blockRun (s.len.toNat + 1) t) ∧
      (blockRun (s.len.toNat + 1) t).result = crc a d s.prev ∧
      (blockRun (s.len.toNat + 1) t).ctxs = s.ctxs := by
  have hdata : (primitiveOf a).opcode.isData = true := by cases a <;> rfl
  obtain ⟨n, hn⟩ := h.blockRun_completes hdata 0 a (~~~ s.prev)
  refine ⟨_, h.exec_primitive a, rfl, rfl, rfl, ?_⟩
  rw [hn]
  refine ⟨complete_endedWell _ _ _, ?_⟩
  cases a <;> exact ⟨rfl, rfl⟩

end Sys2Proof.Machine

open Sys2Proof Sys2Proof.Machine

/-- Settles O16: the primitive command of CRC32. -/
theorem crc32ComputesTheChecksum : Obligations.Crc32ComputesTheChecksum :=
  fun _ _ h => h.primitive_computes .crc32

/-- Settles O17: the primitive command of CRC32C. -/
theorem crc32cComputesTheChecksum : Obligations.Crc32cComputesTheChecksum :=
  fun _ _ h => h.primitive_computes .crc32c
end

section
/-! PROOF. Contexts: which steps change one (R96), and that a command on another context or on none neither reads nor writes it (R95). -/

namespace Sys2Proof.Machine

/-! ## Who changes a context (R96) -/

/-- A host access other than the reset event writes no context. -/
theorem HostEffect.ctxs {s t : State} {o : HostOp} (h : HostEffect s o t) (ho : o ≠ .reset) :
    t.ctxs = s.ctxs := by
  cases h with
  | kept h => exact h.ctxs
  | issued h => exact h.ctxs
  | stored a b old _ =>
    unfold storeByte
    split <;> rfl
  | reset => exact absurd rfl ho

/-- A host step that changes a context takes the reset event (R115). -/
theorem hostStep_ctxAt_changed {s t : State} {j : Nat} (h : hostStep s = .next t)
    (hne : ctxAt t j ≠ ctxAt s j) : ∃ rest, s.host = .reset :: rest := by
  rcases hostStep_cases s with ⟨_, he⟩ | ⟨o, rest, hs, he⟩
  · cases he.symm.trans h
    exact absurd rfl hne
  · by_cases ho : o = .reset
    · exact ⟨rest, ho ▸ hs⟩
    · have hc : t.ctxs = s.ctxs := (hostOp_effect (he.symm.trans h)).ctxs ho
      exact absurd (ctxAt_congr hc j) hne

/-- A write to a context is read back there, unless the file has no such context and nothing changes. -/
theorem ctxAt_setCtx_self (s : State) (k : Nat) (c : Context) :
    ctxAt (s.setCtx k c) k = c ∨ ctxAt (s.setCtx k c) k = ctxAt s k := by
  by_cases hk : k < s.ctxs.length
  · exact .inl (ctxAt_setCtx_same s k c hk)
  · exact .inr (ctxAt_congr (List.set_eq_of_length_le (Nat.le_of_not_lt hk)) k)

/-- UPDATE writes acc only: valid and alg of its context stay (R90). -/
theorem completeUpdate_valid_alg (s : State) :
    (ctxAt (completeUpdate s) s.op.k.toNat).valid = (ctxAt s s.op.k.toNat).valid ∧
    (ctxAt (completeUpdate s) s.op.k.toNat).alg = (ctxAt s s.op.k.toNat).alg := by
  rcases ctxAt_setCtx_self s s.op.k.toNat { ctxAt s s.op.k.toNat with acc := ~~~ s.op.S } with h | h <;>
    rw [completeUpdate, h] <;> exact ⟨rfl, rfl⟩

/-- The command in flight is one that may write context `j`, and `c` is what `j` then holds: a NEW or
DROP of `j`, or an UPDATE of `j` that keeps valid and alg (R88, R89, R90, R92). -/
def WritesContext (s : State) (j : Nat) (c : Context) : Prop :=
  s.op.k.toNat = j ∧ (s.op.opc = .newCrc32 ∨ s.op.opc = .newCrc32c ∨ s.op.opc = .drop ∨
    (s.op.opc = .update ∧ c.valid = (ctxAt s j).valid ∧ c.alg = (ctxAt s j).alg))

/-- Of the own writes only those of NEW, UPDATE and DROP change a context, and that is OP.k's. -/
theorem ownWrites_ctxAt_changed {s : State} {j : Nat} (hne : ctxAt (ownWrites s) j ≠ ctxAt s j) :
    WritesContext s j (ctxAt (ownWrites s) j) := by
  obtain ⟨_, hothers⟩ := ownWrites_otherContextsKept s
  have hj : s.op.k.toNat = j := Classical.byContradiction fun hn => hne (hothers j (Ne.symm hn))
  subst hj
  refine ⟨rfl, ?_⟩
  unfold ownWrites at hne ⊢
  cases ho : s.op.opc with
  | newCrc32 => exact .inl rfl
  | newCrc32c => exact .inr (.inl rfl)
  | drop => exact .inr (.inr (.inl rfl))
  | update => exact .inr (.inr (.inr ⟨rfl, completeUpdate_valid_alg s⟩))
  | crc32 | crc32c | checksum =>
    rw [ho] at hne
    exact absurd rfl hne

/-- A block step that changes a context is the completion of a command that may write it (R64). -/
theorem blockStep_ctxAt_changed {s : State} {j : Nat} (hne : ctxAt (blockStep s) j ≠ ctxAt s j) :
    blockStep s = complete s ∧ WritesContext s j (ctxAt (blockStep s) j) := by
  rcases blockStep_cases s with ⟨_, he⟩ | ⟨_, _, b, _, he⟩ | ⟨_, _, _, he⟩ | ⟨_, _, he⟩ <;>
    rw [he] at hne ⊢
  · exact absurd rfl hne
  · exact absurd rfl hne
  · exact absurd rfl hne
  · exact ⟨rfl, ownWrites_ctxAt_changed hne⟩

/-! ## A context that a command does not name (R95) -/

theorem State.setCtx_comm (s : State) {k j : Nat} (c d : Context) (h : k ≠ j) :
    (s.setCtx j d).setCtx k c = (s.setCtx k c).setCtx j d :=
  congrArg s.setCtxs (List.set_comm _ _ h.symm)

section
variable {j : Nat} {c : Context}

theorem checkFree_congr {s t : State} {k : Nat} (h : ctxAt t k = ctxAt s k) :
    checkFree k t = checkFree k s := by
  rw [checkFree, h, checkFree]

theorem checkLive_congr {s t : State} {k : Nat} (h : ctxAt t k = ctxAt s k) :
    checkLive k t = checkLive k s := by
  rw [checkLive, h, checkLive]

/-- The checks of a command read no context but its own (R61, R95). -/
theorem Instr.checks_setCtx {i : Instr} {s : State} (h : i.ctx ≠ j) :
    Instr.checks i (s.setCtx j c) = Instr.checks i s := by
  have hc : ctxAt (s.setCtx j c) i.ctx = ctxAt s i.ctx := ctxAt_setCtx_other s j i.ctx c h
  cases i with
  | crc32 | crc32c => rfl
  | newCrc32 k | newCrc32c k =>
    exact congrArg (fun e => [checkIndex k s, e]) (checkFree_congr hc)
  | checksum k | drop k =>
    exact congrArg (fun e => [checkIndex k s, e]) (checkLive_congr hc)
  | update k =>
    exact congrArg (fun e => [checkIndex k s, e, checkLen s, checkAddr s]) (checkLive_congr hc)

/-- The acceptance of a word touches no context that its start does not touch. -/
theorem acceptCommand_setCtx {e : ErrCode} {start : State → State} {s : State}
    (hstart : start (s.setCtx j c) = (start s).setCtx j c) :
    acceptCommand e start (s.setCtx j c) = (acceptCommand e start s).setCtx j c := by
  unfold acceptCommand
  rw [State.setCtx_status, hstart]
  split
  · rfl
  · split <;> rfl

theorem issueContext_setCtx {e : ErrCode} {o : Opcode} {k : Nat} {s t : State}
    (h : issueContext e o k s = .next t) :
    issueContext e o k (s.setCtx j c) = .next (t.setCtx j c) := by
  cases h
  exact congrArg _ (acceptCommand_setCtx rfl)

theorem issueData_setCtx {e : ErrCode} {o : Opcode} {k : Nat} {a : Alg} {S : Word} {s t : State}
    (h : issueData e o k a S s = .next t) :
    issueData e o k a S (s.setCtx j c) = .next (t.setCtx j c) := by
  have hside : bufferHasSideEffects (s.setCtx j c) = bufferHasSideEffects s := rfl
  unfold issueData at h ⊢
  rw [State.setCtx_status, hside]
  split at h <;> cases h
  rw [if_neg ‹_›]
  exact congrArg _ (acceptCommand_setCtx rfl)

/-- UPDATE is issued by its checks, with its context's algorithm and value (R62, R90). -/
theorem exec_update_eq (k : Nat) (s : State) :
    exec (.update k) s = issueData (firstError (Instr.checks (.update k) s)) .update k
      (ctxAt s k).alg (~~~ (ctxAt s k).acc) s := rfl

/-- The issue of a command does the same whatever a context holds that it does not name (R95). -/
theorem exec_setCtx {i : Instr} {s t : State} (hi : i = .crc32 ∨ i = .crc32c ∨ i.ctx ≠ j)
    (h : exec i s = .next t) : exec i (s.setCtx j c) = .next (t.setCtx j c) := by
  have hctx : Opcode.usesCtx i.opcode = true → i.ctx ≠ j := fun hu => by
    rcases hi with rfl | rfl | hne
    · cases hu
    · cases hu
    · exact hne
  cases i with
  | crc32 | crc32c => exact issueData_setCtx h
  | update k =>
    rw [exec_update_eq, Instr.checks_setCtx (hctx rfl), ctxAt_setCtx_other s j k c (hctx rfl)]
    exact issueData_setCtx h
  | newCrc32 | newCrc32c | checksum | drop =>
    rw [exec_of_not_data rfl, Instr.checks_setCtx (hctx rfl)]
    exact issueContext_setCtx h

/-- The own writes of a command do the same whatever another context than OP.k's holds (R95). -/
theorem ownWrites_setCtx {s : State} (h : Opcode.usesCtx s.op.opc = false ∨ s.op.k.toNat ≠ j) :
    ownWrites (s.setCtx j c) = (ownWrites s).setCtx j c := by
  have hk : Opcode.usesCtx s.op.opc = true → s.op.k.toNat ≠ j := fun hu =>
    h.resolve_left (by simp [hu])
  have hc (hu : Opcode.usesCtx s.op.opc = true) :
      ctxAt (s.setCtx j c) s.op.k.toNat = ctxAt s s.op.k.toNat :=
    ctxAt_setCtx_other s j _ c (hk hu)
  unfold ownWrites
  rw [State.setCtx_op]
  cases ho : s.op.opc with
  | crc32 | crc32c => rfl
  | newCrc32 | newCrc32c => exact s.setCtx_comm _ c (hk (congrArg Opcode.usesCtx ho))
  | drop =>
    exact congrArg (·.setDraws (s.draws + 1)) (s.setCtx_comm _ c (hk (congrArg Opcode.usesCtx ho)))
  | checksum =>
    exact congrArg (fun x : Context => (s.setCtx j c).setResult x.acc)
      (hc (congrArg Opcode.usesCtx ho))
  | update =>
    have hu : Opcode.usesCtx s.op.opc = true := congrArg Opcode.usesCtx ho
    show (s.setCtx j c).setCtx s.op.k.toNat
      { ctxAt (s.setCtx j c) s.op.k.toNat with acc := ~~~ s.op.S } = _
    rw [hc hu]
    exact s.setCtx_comm _ c (hk hu)

/-- A block step does the same whatever another context than OP.k's holds (R95). -/
theorem blockStep_setCtx {s : State} (h : Opcode.usesCtx s.op.opc = false ∨ s.op.k.toNat ≠ j) :
    blockStep (s.setCtx j c) = (blockStep s).setCtx j c := by
  have hmore : moreBytes (s.setCtx j c) = moreBytes s := rfl
  have hread : memRead (s.setCtx j c) (nextAddr (s.setCtx j c)) = memRead s (nextAddr s) := rfl
  unfold blockStep
  rw [State.setCtx_op, hmore, hread]
  split
  · split
    · split <;> rfl
    · rw [complete, ownWrites_setCtx h]
      rfl
  · rfl

/-- So do any number of block steps: the latch keeps its command (R95). -/
theorem blockRun_setCtx {s : State} (h : Opcode.usesCtx s.op.opc = false ∨ s.op.k.toNat ≠ j) (n : Nat) :
    blockRun n (s.setCtx j c) = (blockRun n s).setCtx j c := by
  induction n generalizing s with
  | zero => rfl
  | succ n ih =>
    obtain ⟨hopc, hk, _⟩ := blockStep_latch s
    rw [blockRun, blockStep_setCtx h, ih (by rwa [hopc, hk]), blockRun]

end

end Sys2Proof.Machine

open Sys2Proof Sys2Proof.Machine

/-- Settles O26, by the three kinds of step: an idle step changes nothing, a block step changes a
context only by completing a command that writes it, and a host step only by the reset event. -/
theorem contextsChangeOnlyByTheirCommands : Obligations.ContextsChangeOnlyByTheirCommands := by
  intro s t j hstep hne
  rcases step_cases s with ⟨_, _, he⟩ | ⟨ha, q, n, he⟩ | ⟨_, q, n, he⟩
  · cases he.symm.trans hstep
    exact absurd rfl hne
  · cases he.symm.trans hstep
    obtain ⟨hc, hj, hopc⟩ := blockStep_ctxAt_changed (s := (s.setSched q).setDraws n) hne
    have hend : (blockStep ((s.setSched q).setDraws n)).op.active = false ∧
        (blockStep ((s.setSched q).setDraws n)).status.errcode = .noError := by
      rw [hc, complete_status, complete_op]
      exact ⟨rfl, rfl⟩
    exact .inr ⟨ha, hend.1, hend.2, hj, hopc⟩
  · exact .inl (hostStep_ctxAt_changed (s := (s.setSched q).setDraws n) (he.symm.trans hstep) hne)

/-- Settles O25: the issue and the block steps of a command commute with a write to a context that it
does not name. -/
theorem contextsAreIndependent : Obligations.ContextsAreIndependent :=
  ⟨fun _ _ _ _ _ hi h => exec_setCtx hi h, fun _ _ _ h n => blockRun_setCtx h n⟩

end

section
/-! PROOF. The accumulator commands from issue to completion (R62 to R64, R88 to R92). -/

namespace Sys2Proof.Machine

/-! ## The completion of a started command and the contexts -/

theorem ownWrites_of_update {s : State} (h : s.op.opc = .update) : ownWrites s = completeUpdate s := by
  simp [ownWrites, h]

section
variable {s : State} {o : Latch} {k : Nat} (hko : o.k.toNat = k)
include hko

/-- A command that started on `s` and completes writes no context but the latched one (R64, R95). -/
theorem complete_otherContextsKept (n : Nat) :
    OtherContextsKept k s (complete ((startCommand o s).setDraws n)) :=
  hko ▸ ownWrites_otherContextsKept ((startCommand o s).setDraws n)

/-- What the own writes place in the latched context stands there after the completion (R64). -/
theorem ctxAt_complete_of_set {n : Nat} {c : Context} (hk : k < s.ctxs.length)
    (hset : (ownWrites ((startCommand o s).setDraws n)).ctxs = s.ctxs.set o.k.toNat c) :
    ctxAt (complete ((startCommand o s).setDraws n)) k = c := by
  rw [hko] at hset
  exact (ctxAt_congr (s := s.setCtx k c) hset k).trans (ctxAt_setCtx_same s k c hk)

/-- The completion of UPDATE leaves the complement of the engine state in its context (R90). -/
theorem ctxAt_complete_update {n : Nat} (hopc : o.opc = .update) (hk : k < s.ctxs.length) :
    ctxAt (complete ((startCommand o s).setDraws n)) k = { ctxAt s k with acc := ~~~ o.S } := by
  refine ctxAt_complete_of_set hko hk ?_
  rw [ownWrites_of_update (s := (startCommand o s).setDraws n) hopc, ← hko]
  rfl

end

/-! ## The context commands: NEW, CHECKSUM and DROP -/

/-- A context command whose checks passed starts on an idle block (R62). -/
theorem exec_of_context {i : Instr} {s : State} (hd : i.opcode.isData = false)
    (hb : s.status.busy = false) (hok : firstError (Instr.checks i s) = .noError) :
    exec i s = .next (startContext i.opcode i.ctx s) := by
  rw [exec_of_not_data hd]
  simp [issueContext, acceptCommand, hb, hok]

/-- The index of a context that the block has fits the latch (R7, R25). -/
theorem startContext_k (o : Opcode) {k : Nat} {s : State} (hk : k < s.params.nCtx) :
    (startContext o k s).op.k.toNat = k :=
  latchFor_k s o k _ _ (hk.trans_le (nCtx_le s.params))

/-- A context command has no byte to read: its first block step is its completion (R63). -/
theorem blockStep_startContext {o : Opcode} (hd : o.isData = false) (k : Nat) (s : State) :
    blockStep (startContext o k s) = complete (startContext o k s) :=
  blockStep_of_no_bytes rfl (by simp [moreBytes, startContext, startCommand, latchFor, hd])

theorem startContext_endedWell {o : Opcode} (hd : o.isData = false) (k : Nat) (s : State) :
    EndedWell s (blockStep (startContext o k s)) := by
  rw [blockStep_startContext hd]
  exact complete_endedWell s _ _

theorem startContext_otherContextsKept {o : Opcode} (hd : o.isData = false) {k : Nat} {s : State}
    (hk : k < s.params.nCtx) : OtherContextsKept k s (blockStep (startContext o k s)) := by
  rw [blockStep_startContext hd]
  exact complete_otherContextsKept (startContext_k o hk) (s.draws + 1)

/-- What the own writes of a context command place in its context stands there after its first block
step (R64). -/
theorem startContext_ctxAt {o : Opcode} (hd : o.isData = false) {k : Nat} {s : State} {c : Context}
    (hlen : s.ctxs.length = s.params.nCtx) (hk : k < s.params.nCtx)
    (hset : (ownWrites (startContext o k s)).ctxs = s.ctxs.set (startContext o k s).op.k.toNat c) :
    ctxAt (blockStep (startContext o k s)) k = c := by
  rw [blockStep_startContext hd]
  exact ctxAt_complete_of_set (startContext_k o hk) (hlen ▸ hk) hset

/-- The checks of NEW pass on a free context that the block has (R61). -/
theorem firstError_checks_new (a : Alg) {k : Nat} {s : State} (hk : k < s.params.nCtx)
    (hfree : (ctxAt s k).valid = false) : firstError (Instr.checks (newOf a k) s) = .noError := by
  cases a <;> simp [newOf, Instr.checks, firstError_eq_noError, checkIndex_iff, checkFree_iff, hk, hfree]

/-- The checks of CHECKSUM and DROP pass on a constructed context that the block has (R61). -/
theorem firstError_checkLive {k : Nat} {s : State} (hk : k < s.params.nCtx)
    (hlive : (ctxAt s k).valid = true) : firstError [checkIndex k s, checkLive k s] = .noError := by
  simp [firstError_eq_noError, checkIndex_iff, checkLive_iff, hk, hlive]

/-- A command that needs a constructed context ends at issue with CTX_INVALID on a free one (R61). -/
theorem exec_of_free_context {i : Instr} {s : State} (hb : s.status.busy = false)
    (hneeds : Opcode.needsLive i.opcode = true) (hk : i.ctx < s.params.nCtx)
    (hfree : (ctxAt s i.ctx).valid = false) : exec i s = .next (raiseError .ctxInvalid s) := by
  have hindex : checkIndex i.ctx s = .noError := (checkIndex_iff _ s).2 hk
  have hlive : checkLive i.ctx s = .ctxInvalid := by simp [checkLive, hfree]
  have he : firstError (Instr.checks i s) = .ctxInvalid := by
    cases i with
    | crc32 | crc32c | newCrc32 | newCrc32c => cases hneeds
    | update k | checksum k | drop k =>
      simp only [Instr.ctx] at hindex hlive
      simp [Instr.checks, firstError, hindex, hlive]
  rw [exec_of_failed_check hb (by simp [he]), he]

/-- NEW of an algorithm constructs an empty accumulator of it (R88, R89). -/
theorem new_constructs (a : Alg) {s : State} {k : Nat} (hb : s.status.busy = false)
    (hlen : s.ctxs.length = s.params.nCtx) (hk : k < s.params.nCtx)
    (hfree : (ctxAt s k).valid = false) :
    ∃ t, exec (newOf a k) s = .next t ∧ t.status.busy = true ∧ t.ctxs = s.ctxs ∧
      EndedWell s (blockStep t) ∧
      ctxAt (blockStep t) k = { valid := true, alg := a, acc := 0x00000000#32 } ∧
      OtherContextsKept k s (blockStep t) ∧ (blockStep t).result = s.result := by
  have hd : (newOf a k).opcode.isData = false := by cases a <;> rfl
  have hexec : exec (newOf a k) s = .next (startContext (newOf a k).opcode (newOf a k).ctx s) :=
    exec_of_context hd hb (firstError_checks_new a hk hfree)
  have hctx : (newOf a k).ctx = k := by cases a <;> rfl
  rw [hctx] at hexec
  refine ⟨_, hexec, rfl, rfl, startContext_endedWell hd k s, startContext_ctxAt hd hlen hk ?_,
    startContext_otherContextsKept hd hk, ?_⟩
  · cases a <;> rfl
  · rw [blockStep_startContext hd]
    cases a <;> rfl

/-! ## UPDATE -/

/-- On a ready buffer and a constructed context UPDATE starts, with the context's own algorithm and
value (R61, R62). -/
theorem BufferReady.exec_update {s : State} {d : List Byte} {k : Nat} (h : BufferReady s d)
    (hk : k < s.params.nCtx) (hlive : (ctxAt s k).valid = true) :
    exec (.update k) s =
      .next (startCommand (latchFor s .update k (ctxAt s k).alg (~~~ (ctxAt s k).acc)) s) := by
  have hchecks : firstError [checkIndex k s, checkLive k s, checkLen s, checkAddr s] = .noError := by
    simp [firstError_eq_noError, checkIndex_iff, checkLive_iff, checkLen_iff, checkAddr_iff, hk, hlive,
      h.lenOk, h.addrOk]
  rw [exec_eq_accept (.inr h.ordinary)]
  simp [acceptCommand, h.notBusy, Instr.checks, hchecks, startOf]

/-- On a ready buffer the command that completes is the one that was issued, its engine state the fold
of the buffer's bytes (R63, R76). -/
theorem BufferReady.blockRun_latch {s : State} {d : List Byte} (h : BufferReady s d) {opc : Opcode}
    (hd : opc.isData = true) {k : Nat} (hk : k < s.params.nCtx) (a : Alg) (S : Word) :
    ∃ o n, blockRun (s.len.toNat + 1) (startCommand (latchFor s opc k a S) s) =
        complete ((startCommand o s).setDraws n) ∧
      o.opc = opc ∧ o.k.toNat = k ∧ o.S = crcFold a S d := by
  obtain ⟨n, hn⟩ := h.blockRun_completes hd k a S
  have hko := latchFor_k s opc k a (crcFold a S d) (hk.trans_le (nCtx_le s.params))
  exact ⟨_, n, hn, rfl, hko, rfl⟩

/-- After LEN + 1 block steps it has folded the buffer into the context (R63, R64, R90). -/
theorem BufferReady.update_folds {s : State} {d : List Byte} {k : Nat} (h : BufferReady s d)
    (hlen : s.ctxs.length = s.params.nCtx) (hk : k < s.params.nCtx)
    (hlive : (ctxAt s k).valid = true) :
    ∃ t, exec (.update k) s = .next t ∧ t.status.busy = true ∧ t.ctxs = s.ctxs ∧ t.op.len = s.len ∧
      EndedWell s (blockRun (s.len.toNat + 1) t) ∧
      ctxAt (blockRun (s.len.toNat + 1) t) k =
        { valid := true, alg := (ctxAt s k).alg, acc := crc (ctxAt s k).alg d (ctxAt s k).acc } ∧
      OtherContextsKept k s (blockRun (s.len.toNat + 1) t) ∧
      (blockRun (s.len.toNat + 1) t).result = s.result := by
  refine ⟨_, h.exec_update hk hlive, rfl, rfl, rfl, ?_⟩
  obtain ⟨o, n, hrun, hopc, hko, hS⟩ := h.blockRun_latch (opc := .update) rfl hk (ctxAt s k).alg
    (~~~ (ctxAt s k).acc)
  rw [hrun]
  refine ⟨complete_endedWell s o n, ?_, complete_otherContextsKept hko n, ?_⟩
  · rw [ctxAt_complete_update hko hopc (hlen ▸ hk), hS]
    exact congrArg (fun v => Context.mk v (ctxAt s k).alg _) hlive
  · have hresult := congrArg State.result
      (ownWrites_of_update (s := (startCommand o s).setDraws n) hopc)
    exact hresult

end Sys2Proof.Machine

open Sys2Proof Sys2Proof.Machine

/-- Settles O18: NEW of CRC32. -/
theorem newCrc32Constructs : Obligations.NewCrc32Constructs :=
  fun _ _ hb hlen hk hfree => new_constructs .crc32 hb hlen hk hfree

/-- Settles O19: NEW of CRC32C. -/
theorem newCrc32cConstructs : Obligations.NewCrc32cConstructs :=
  fun _ _ hb hlen hk hfree => new_constructs .crc32c hb hlen hk hfree

/-- Settles O20: the state that UPDATE writes back is the fold of the buffer from the complement of
its accumulator, which is how `crc` is defined (R76). -/
theorem updateFoldsTheBuffer : Obligations.UpdateFoldsTheBuffer := by
  intro s d k h hlen hk hlive
  obtain ⟨t, hexec, hbusy, hctxs, _, hrun⟩ := h.update_folds hlen hk hlive
  exact ⟨t, hexec, hbusy, hctxs, hrun⟩

/-- Settles O21: the one write of CHECKSUM is RESULT, from the context it names. -/
theorem checksumReadsTheAccumulator : Obligations.ChecksumReadsTheAccumulator := by
  intro s k hb hk hlive
  refine ⟨startContext .checksum k s, exec_of_context rfl hb (firstError_checkLive hk hlive), rfl, rfl,
    startContext_endedWell rfl k s, ?_⟩
  rw [blockStep_startContext rfl]
  have hacc : (complete (startContext .checksum k s)).result =
      (ctxAt s (startContext .checksum k s).op.k.toNat).acc := rfl
  rw [hacc, startContext_k .checksum hk]
  exact ⟨rfl, rfl⟩

/-- Settles O22: DROP clears valid, and the check of R61 then refuses what needs a constructed
context. -/
theorem dropEndsTheAccumulator : Obligations.DropEndsTheAccumulator := by
  intro s k hb hlen hk hlive
  have hend := startContext_endedWell (o := .drop) rfl k s
  have hctx := startContext_ctxAt (o := .drop) rfl hlen hk rfl
  have hfree : (ctxAt (blockStep (startContext .drop k s)) k).valid = false := by rw [hctx]
  have hres : (blockStep (startContext .drop k s)).result = s.result := by
    rw [blockStep_startContext rfl]
    rfl
  refine ⟨_, exec_of_context rfl hb (firstError_checkLive hk hlive), rfl, rfl, hend, hfree,
    startContext_otherContextsKept rfl hk, hres, fun i hi => ?_⟩
  have hidle : (blockStep (startContext .drop k s)).status.busy = false := by rw [hend.status]
  have hindex : k < (blockStep (startContext .drop k s)).params.nCtx := hend.operands.params ▸ hk
  refine ⟨raiseError .ctxInvalid _, ?_, rfl, rfl, hres⟩
  rcases hi with rfl | rfl | rfl <;> exact exec_of_free_context hidle rfl hindex hfree

end

section
/-! PROOF. The accumulator as a whole: UPDATEs over the chunks of a buffer, and the chain of primitive commands over them, give the CRC of their concatenation (R83, R93, R94). -/

namespace Sys2Proof.Machine

/-! ## The platform under a run of commands -/

/-- The parameters, the side-effect regions and every byte of the memory are unchanged. -/
structure PlatformKept (s t : State) : Prop where
  params      : t.params = s.params
  sideEffects : t.sideEffects = s.sideEffects
  bytes       : ∀ a, Memory.read t.mem a = Memory.read s.mem a

theorem PlatformKept.trans {s t u : State} (h : PlatformKept s t) (h' : PlatformKept t u) :
    PlatformKept s u :=
  ⟨h'.params.trans h.params, h'.sideEffects.trans h.sideEffects,
    fun a => (h'.bytes a).trans (h.bytes a)⟩

theorem PlatformKept.symm {s t : State} (h : PlatformKept s t) : PlatformKept t s :=
  ⟨h.params.symm, h.sideEffects.symm, fun a => (h.bytes a).symm⟩

/-- A command that ended in success changed nothing of the platform (R43, R64). -/
theorem EndedWell.platformKept {s t : State} (h : EndedWell s t) : PlatformKept s t :=
  ⟨h.operands.params, h.outside.sideEffects, h.outside.bytes⟩

theorem EndedWell.notBusy {s t : State} (h : EndedWell s t) : t.status.busy = false := by
  rw [h.status]

/-- The writes of ADDR and LEN touch neither the platform nor the contexts. -/
theorem setBuffer_kept (a : BitVec 64) (n : Word) (s : State) :
    PlatformKept s (setBuffer a n s) ∧ (setBuffer a n s).ctxs = s.ctxs ∧
    (setBuffer a n s).status = s.status := by
  unfold setBuffer writeAddrHi
  split <;> exact ⟨⟨rfl, rfl, fun _ => rfl⟩, rfl, rfl⟩

/-- The buffer's address as `setbuf` leaves it depends on the part alone (R19, R60). -/
theorem addrOperand_setBuffer (a : BitVec 64) (n : Word) (s : State) :
    addrOperand (setBuffer a n s) =
      (if s.params.addrWidth = .w32 then 0#32 else a.extractLsb' 32 32) ++ a.setWidth 32 := by
  cases hw : s.params.addrWidth <;> simp [setBuffer, writeAddrHi, addrOperand, addrHiReg, hw]

theorem Memory.bytes?_congr {m m' : Memory} (h : ∀ a, Memory.read m' a = Memory.read m a) (a n : Nat) :
    Memory.bytes? m' a n = Memory.bytes? m a n := by
  induction n generalizing a with
  | zero => rfl
  | succ n ih => simp only [Memory.bytes?, h, ih]

/-- A buffer stays ready on the same platform with the same ADDR and LEN, on an idle block. -/
theorem BufferReady.of_platformKept {s t : State} {d : List Byte} (h : BufferReady s d)
    (hp : PlatformKept s t) (hb : t.status.busy = false) (haddr : addrOperand t = addrOperand s)
    (hlen : t.len = s.len) : BufferReady t d where
  notBusy := hb
  lenOk := hlen ▸ h.lenOk
  addrOk := by rw [haddr, hlen, hp.params]; exact h.addrOk
  ordinary := by
    have hord := h.ordinary
    unfold bufferHasSideEffects at hord ⊢
    rwa [hp.sideEffects, haddr, hlen]
  bytes := by rw [Memory.bytes?_congr hp.bytes, haddr, hlen]; exact h.bytes

theorem chunksReady_nil {s : State} {ds : List (List Byte)} : ChunksReady s [] ds ↔ ds = [] := by
  cases ds <;> simp [ChunksReady]

theorem chunksReady_cons {s : State} {c : BitVec 64 × Word} {cs : List (BitVec 64 × Word)}
    {ds : List (List Byte)} :
    ChunksReady s (c :: cs) ds ↔
      ∃ d es, ds = d :: es ∧ BufferReady (setBuffer c.1 c.2 s) d ∧ ChunksReady s cs es := by
  cases ds <;> simp [ChunksReady]

/-- Chunks that are ready stay ready on the same platform, on an idle block. -/
theorem ChunksReady.of_platformKept {s t : State} (hp : PlatformKept s t)
    (hb : t.status.busy = false) {cs : List (BitVec 64 × Word)} {ds : List (List Byte)}
    (h : ChunksReady s cs ds) : ChunksReady t cs ds := by
  induction cs generalizing ds with
  | nil => exact chunksReady_nil.2 (chunksReady_nil.1 h)
  | cons c cs ih =>
    obtain ⟨d, es, rfl, hfirst, hrest⟩ := chunksReady_cons.1 h
    obtain ⟨hps, _, _⟩ := setBuffer_kept c.1 c.2 s
    obtain ⟨hpt, _, hst⟩ := setBuffer_kept c.1 c.2 t
    have hset : PlatformKept (setBuffer c.1 c.2 s) (setBuffer c.1 c.2 t) :=
      hps.symm.trans (hp.trans hpt)
    have haddr : addrOperand (setBuffer c.1 c.2 t) = addrOperand (setBuffer c.1 c.2 s) := by
      rw [addrOperand_setBuffer, addrOperand_setBuffer, hp.params]
    have hready := hfirst.of_platformKept hset (by rw [hst, hb]) haddr rfl
    exact chunksReady_cons.2 ⟨d, es, rfl, hready, ih hrest⟩

/-! ## A command run to its end -/

theorem runCommand_of_next {i : Instr} {s t : State} (h : exec i s = .next t) :
    runCommand i s = .next (blockRun (t.op.len.toNat + 1) t) := by
  simp [runCommand, h]

/-- Context `k` of the file holds a constructed accumulator of algorithm `a` with value `v`. -/
structure HoldsAccumulator (s : State) (k : Nat) (a : Alg) (v : Word) : Prop where
  fileFull : s.ctxs.length = s.params.nCtx
  index    : k < s.params.nCtx
  context  : ctxAt s k = { valid := true, alg := a, acc := v }

/-- NEW run to its end leaves an accumulator of value 0 (R88, R89). -/
theorem runCommand_new (a : Alg) {s : State} {k : Nat} (hb : s.status.busy = false)
    (hlen : s.ctxs.length = s.params.nCtx) (hk : k < s.params.nCtx)
    (hfree : (ctxAt s k).valid = false) :
    ∃ t, runCommand (newOf a k) s = .next t ∧ EndedWell s t ∧ HoldsAccumulator t k a 0#32 := by
  obtain ⟨t, hexec, _, _, hend, hctx, ⟨hcount, _⟩, _⟩ := new_constructs a hb hlen hk hfree
  have hrun : blockRun (t.op.len.toNat + 1) t = blockStep t :=
    blockRun_of_inactive _ _ hend.inactive
  refine ⟨blockStep t, by rw [runCommand_of_next hexec, hrun], hend, ?_, ?_, hctx⟩
  · rw [hcount, hlen, hend.operands.params]
  · rwa [hend.operands.params]

/-- UPDATE run to its end on a ready buffer folds it into the accumulator (R90). -/
theorem BufferReady.runCommand_update {s : State} {d : List Byte} {k : Nat} {a : Alg} {v : Word}
    (h : BufferReady s d) (hacc : HoldsAccumulator s k a v) :
    ∃ t, runCommand (.update k) s = .next t ∧ EndedWell s t ∧ HoldsAccumulator t k a (crc a d v) := by
  obtain ⟨hlen, hk, hctx⟩ := hacc
  obtain ⟨t, hexec, _, _, hoplen, hend, hfold, ⟨hcount, _⟩, _⟩ := h.update_folds hlen hk (by rw [hctx])
  refine ⟨_, by rw [runCommand_of_next hexec, hoplen], hend, ?_, ?_, by rw [hfold, hctx]⟩
  · rw [hcount, hlen, hend.operands.params]
  · rwa [hend.operands.params]

/-- The primitive command run to its end on a ready buffer leaves the CRC in RESULT (R80, R81). -/
theorem BufferReady.runCommand_primitive {s : State} {d : List Byte} (h : BufferReady s d) (a : Alg) :
    ∃ t, runCommand (primitiveOf a) s = .next t ∧ EndedWell s t ∧ t.result = crc a d s.prev := by
  obtain ⟨t, hexec, _, _, _, hend, hres, _⟩ := h.primitive_computes a
  have hoplen : t.op.len = s.len := by
    cases hexec.symm.trans (h.exec_primitive a)
    rfl
  exact ⟨_, by rw [runCommand_of_next hexec, hoplen], hend, hres⟩

/-! ## Chunk after chunk -/

/-- UPDATE over each of the chunks folds their concatenation into the accumulator (R93). -/
theorem updateChunks_accumulates {k : Nat} {a : Alg} {cs : List (BitVec 64 × Word)}
    {ds : List (List Byte)} {s : State} {v : Word} (hready : ChunksReady s cs ds)
    (hacc : HoldsAccumulator s k a v) :
    ∃ t, updateChunks k cs s = .next t ∧ HoldsAccumulator t k a (crc a ds.flatten v) := by
  induction cs generalizing ds s v with
  | nil =>
    obtain rfl := chunksReady_nil.1 hready
    exact ⟨s, rfl, by rwa [List.flatten_nil, crcOfNothingIsPrev]⟩
  | cons c cs ih =>
    obtain ⟨d, es, rfl, hfirst, hrest⟩ := chunksReady_cons.1 hready
    obtain ⟨hp, hctxs, _⟩ := setBuffer_kept c.1 c.2 s
    have hset : HoldsAccumulator (setBuffer c.1 c.2 s) k a v :=
      ⟨by rw [hctxs, hp.params]; exact hacc.fileFull, hp.params ▸ hacc.index,
        (ctxAt_congr hctxs k).trans hacc.context⟩
    obtain ⟨t, hrun, hend, hfold⟩ := hfirst.runCommand_update hset
    have hlater := hrest.of_platformKept (hp.trans hend.platformKept) hend.notBusy
    obtain ⟨u, hchunks, hall⟩ := ih hlater hfold
    refine ⟨u, by simp only [updateChunks, hrun, hchunks], ?_⟩
    rwa [List.flatten_cons, crcContinues]

/-- The chain of primitive commands over the chunks ends with the CRC of their concatenation (R94). -/
theorem primitiveChunks_computes {a : Alg} {cs : List (BitVec 64 × Word)} {ds : List (List Byte)}
    {s : State} {p : Word} (hready : ChunksReady s cs ds) :
    ∃ t, primitiveChunks a cs p s = .next t ∧ t.prev = crc a ds.flatten p := by
  induction cs generalizing ds s p with
  | nil =>
    obtain rfl := chunksReady_nil.1 hready
    exact ⟨s.setPrev p, rfl, by rw [List.flatten_nil, crcOfNothingIsPrev]; rfl⟩
  | cons c cs ih =>
    obtain ⟨d, es, rfl, hfirst, hrest⟩ := chunksReady_cons.1 hready
    obtain ⟨hp, _, _⟩ := setBuffer_kept c.1 c.2 s
    have hkept : PlatformKept (setBuffer c.1 c.2 s) ((setBuffer c.1 c.2 s).setPrev p) :=
      ⟨rfl, rfl, fun _ => rfl⟩
    obtain ⟨t, hrun, hend, hres⟩ :=
      (hfirst.of_platformKept hkept hfirst.notBusy rfl rfl).runCommand_primitive a
    have hlater := hrest.of_platformKept ((hp.trans hkept).trans hend.platformKept) hend.notBusy
    obtain ⟨u, hchain, hall⟩ := ih (p := t.result) hlater
    refine ⟨u, by simp only [primitiveChunks, hrun, hchain], ?_⟩
    rw [hall, hres, List.flatten_cons, crcContinues]
    rfl

end Sys2Proof.Machine

open Sys2Proof Sys2Proof.Machine

/-- Settles O24: NEW leaves an accumulator of value 0, each UPDATE continues its CRC by one chunk, and
so does each primitive command of the chain. -/
theorem accumulatorContinues : Obligations.AccumulatorContinues := by
  intro s a k cs ds hb hlen hk hfree hready
  obtain ⟨t, hnew, hend, hacc⟩ := runCommand_new a hb hlen hk hfree
  obtain ⟨u, hupdates, hfold⟩ :=
    updateChunks_accumulates (hready.of_platformKept hend.platformKept hend.notBusy) hacc
  obtain ⟨v, hchain, hprev⟩ := primitiveChunks_computes (a := a) (p := 0#32) hready
  exact ⟨t, u, v, hnew, hupdates, hfold.context, hchain, by rw [hprev, hfold.context]⟩

end

section
/-! PROOF. Errors and OVERRUN: how a command ends with an error, which steps write STATUS, and what an idle block keeps (R98 to R104, R113, R128). -/

namespace Sys2Proof.Machine

/-! ## A CMD write that is dropped or ends at issue (R100, R102) -/

/-- A word issued while BUSY is dropped, whatever its checks gave (R102). -/
theorem acceptCommand_of_busy {s : State} (hb : s.status.busy = true) (e : ErrCode)
    (start : State → State) : acceptCommand e start s = s.setStatus s.status.overran := by
  simp [acceptCommand, hb]

/-- A data command issued while BUSY is not refused for its buffer, since it reads nothing (R44, R102). -/
theorem issueData_of_busy {s : State} (hb : s.status.busy = true) (e : ErrCode) (o : Opcode) (k : Nat)
    (a : Alg) (S : Word) : issueData e o k a S s = .next (s.setStatus s.status.overran) := by
  simp [issueData, hb, acceptCommand_of_busy hb]

/-- Every command issued while BUSY is dropped (R102). -/
theorem exec_of_busy {s : State} (hb : s.status.busy = true) (i : Instr) :
    exec i s = .next (s.setStatus s.status.overran) := by
  cases hd : i.opcode.isData with
  | true =>
    obtain ⟨k, a, S, he⟩ := exec_of_data hd s
    rw [he, issueData_of_busy hb]
  | false => rw [exec_of_not_data hd, issueContext, acceptCommand_of_busy hb]

/-- So is every word, a command or not (R102). -/
theorem writeCmd_of_busy {s : State} (hb : s.status.busy = true) (w : Word) :
    writeCmd w s = .next (s.setStatus s.status.overran) := by
  unfold writeCmd
  split
  · exact exec_of_busy hb _
  · rw [issueIllegal, acceptCommand_of_busy hb]

/-- A word that fails a check of R61 ends at issue with that check's code, on an idle block (R62). -/
theorem writeCmd_of_failed_check {w : Word} {s : State} (hb : s.status.busy = false)
    (he : checkWord w s ≠ .noError) : writeCmd w s = .next (raiseError (checkWord w s) s) := by
  rcases decode_cases w with ⟨hill, _⟩ | ⟨_, i, _, _, _, hi⟩
  · rw [writeCmd_of_illegal hill, issueIllegal_of_idle hb, checkWord_of_illegal hill]
  · obtain ⟨rfl, hw⟩ := encodeOfDecodeIsTheWord w i hi
    rw [checkWord_encode hw] at he ⊢
    rw [writeCmd_of_command hi, exec_of_failed_check hb he]

/-! ## Which host accesses write STATUS (R22, R31, R62, R115) -/

/-- An offset that names a register is that register's own (R15). -/
theorem offset_regAt {off : Nat} (h : regAt off ≠ .reserved) : (regAt off).offset = off := by
  unfold regAt at h ⊢
  repeat' split
  all_goals simp_all [Reg.offset]

/-- A host store that reaches a named register is the write statement of that register (R15, R59). -/
theorem wr_eq_wrReg {p : Params} {a : Nat} {w : AccessWidth} {r : Reg}
    (h : targetOf p a w = .reg r) (hr : r ≠ .reserved) (v : Word) : HostOp.wr a w v = wrReg p r v := by
  unfold targetOf at h
  split at h
  · split at h
    · rename_i hword
      obtain ⟨rfl, hle, _⟩ := hword
      cases h
      rw [wrReg, offset_regAt hr, Nat.add_sub_cancel' hle]
    · cases h
  · cases h

/-- A write to any other register than CMD and STATUS leaves STATUS alone. -/
theorem writeReg_status {r : Reg} {v : Word} {s t : State} (hcmd : r ≠ .cmd) (hst : r ≠ .status)
    (h : writeReg r v s = .next t) : t.status = s.status := by
  cases r with
  | cmd => exact absurd rfl hcmd
  | status => exact absurd rfl hst
  | ctrl =>
    cases h
    unfold writeCtrl
    split <;> rfl
  | addrHi =>
    cases h
    unfold writeAddrHi
    split <;> rfl
  | cap | prev | addrLo | len | result | reserved =>
    cases h
    rfl

/-- What the access or event `o` can make of the STATUS of `s`. -/
inductive StatusEffect (s : State) : HostOp → State → Prop
  | kept {o : HostOp} {t : State} (h : t.status = s.status) : StatusEffect s o t
  | written (v : Word) : StatusEffect s (wrReg s.params .status v) (s.setStatus (s.status.write v))
  | issued (w : Word) {t : State} (h : Issued s t) : StatusEffect s (wrReg s.params .cmd w) t
  | reset : StatusEffect s .reset (resetBlock s)

/-- STATUS is written by a STATUS write, by an issue and by reset, and by no other host access. -/
theorem hostOp_statusEffect {o : HostOp} {s t : State} (h : hostOp o s = .next t) :
    StatusEffect s o t := by
  cases o with
  | wr a w v =>
    simp only [hostOp] at h
    split at h
    · rename_i r htarget
      by_cases hcmd : r = .cmd
      · subst hcmd
        rw [wr_eq_wrReg htarget nofun]
        exact .issued v (writeCmd_issued h)
      · by_cases hst : r = .status
        · subst hst
          cases h
          rw [wr_eq_wrReg htarget nofun]
          exact .written v
        · exact .kept (writeReg_status hcmd hst h)
    · cases h
    · cases h
  | rd a w =>
    simp only [hostOp] at h
    split at h <;> cases h
    exact .kept rfl
  | wait =>
    cases h
    exact .kept rfl
  | store a b =>
    simp only [hostOp] at h
    split at h
    · cases h
    · split at h <;> cases h
      unfold storeByte
      split <;> exact .kept rfl
  | reset =>
    cases h
    exact .reset

/-- A host step that changes STATUS does so by the access it takes off the list. -/
theorem hostStep_statusEffect {s t : State} (h : hostStep s = .next t) (hne : t.status ≠ s.status) :
    ∃ o rest, s.host = o :: rest ∧ StatusEffect (s.setHost rest) o t := by
  rcases hostStep_cases s with ⟨_, he⟩ | ⟨o, rest, hs, he⟩
  · cases he.symm.trans h
    exact absurd rfl hne
  · exact ⟨o, rest, hs, hostOp_statusEffect (he.symm.trans h)⟩

/-! ## Who clears OVERRUN, and who changes ERRCODE (R31, R102, R104) -/

/-- No issue clears OVERRUN. -/
theorem Issued.overrun_stays {s t : State} (h : Issued s t) (hs : s.status.overrun = true) :
    t.status.overrun = true := by
  cases h with
  | dropped => rfl
  | refused | started => exact hs

/-- A STATUS write that clears OVERRUN has bit 2 = 1 (R31). -/
theorem Status.bit_of_overrun_cleared {v : Word} {st : Status} (hs : st.overrun = true)
    (h : (st.write v).overrun = false) : v.getLsbD 2 = true := by
  simpa [Status.write_eq, hs] using h

/-- A host step that clears OVERRUN takes the reset event or a STATUS write with bit 2 = 1. -/
theorem hostStep_overrun_cleared {s t : State} (h : hostStep s = .next t)
    (hs : s.status.overrun = true) (ht : t.status.overrun = false) :
    (∃ rest, s.host = .reset :: rest) ∨
    (∃ v rest, v.getLsbD 2 = true ∧ s.host = wrReg s.params .status v :: rest) := by
  have hne : t.status.overrun ≠ s.status.overrun := by simp [hs, ht]
  obtain ⟨o, rest, hhost, heff⟩ := hostStep_statusEffect h fun he => hne (congrArg Status.overrun he)
  cases heff with
  | kept he => exact absurd (congrArg Status.overrun he) hne
  | written v => exact .inr ⟨v, rest, Status.bit_of_overrun_cleared hs ht, hhost⟩
  | issued w hi => exact absurd ((hi.overrun_stays hs).symm.trans ht) Bool.noConfusion
  | reset => exact .inl ⟨rest, hhost⟩

/-- A host step that changes ERRCODE takes the reset event or a CMD write. -/
theorem hostStep_errcode_changed {s t : State} (h : hostStep s = .next t)
    (hne : t.status.errcode ≠ s.status.errcode) :
    (∃ rest, s.host = .reset :: rest) ∨ (∃ w rest, s.host = wrReg s.params .cmd w :: rest) := by
  obtain ⟨o, rest, hhost, heff⟩ := hostStep_statusEffect h fun he => hne (congrArg Status.errcode he)
  cases heff with
  | kept he => exact absurd (congrArg Status.errcode he) hne
  | written v => exact absurd rfl hne
  | issued w _ => exact .inr ⟨w, rest, hhost⟩
  | reset => exact .inl ⟨rest, hhost⟩

/-- A block that holds an error code is idle (R62, R64). -/
theorem State.Inv.idle_of_error {s : State} (hs : s.Inv) (he : s.status.errcode ≠ .noError) :
    s.status.busy = false ∧ s.op.active = false := by
  have hb : s.status.busy = false := Bool.eq_false_iff.2 fun hb => he (hs.busyNoError hb)
  exact ⟨hb, hs.activeIsBusy.trans hb⟩

/-! ## A data command that comes to a refused byte (R100, R101) -/

/-- A data command whose checks passed starts on an idle block, if its buffer is ordinary memory. -/
theorem exec_of_data_started {i : Instr} {s : State} (hd : i.opcode.isData = true)
    (hb : s.status.busy = false) (hok : firstError (Instr.checks i s) = .noError)
    (hord : bufferHasSideEffects s = false) :
    ∃ k a S, exec i s = .next (startCommand (latchFor s i.opcode k a S) s) := by
  obtain ⟨k, a, S, he⟩ := exec_of_data hd s
  refine ⟨k, a, S, ?_⟩
  rw [he, issueData_eq_accept (.inr hord)]
  simp [acceptCommand, hb, hok]

/-- The latch of a command that started on `s` with opcode `opc` and has consumed `n` bytes. -/
structure Latch.HasConsumed (s : State) (opc : Opcode) (n : Nat) (o : Latch) : Prop where
  active : o.active = true
  opc    : o.opc = opc
  addr   : o.addr = addrOperand s
  len    : o.len = s.len
  idx    : o.idx.toNat = n

/-- A data command that started on `s` consumes the bytes that are admitted, one a block step (R63). -/
theorem blockRun_startCommand_bytes {s : State} {d : List Byte} {opc : Opcode}
    (ho : opc.isData = true) (hlen : d.length ≤ s.len.toNat)
    (hbytes : Memory.bytes? s.mem (addrOperand s).toNat d.length = some d) (k : Nat) (a : Alg) (S : Word) :
    ∃ o n, blockRun d.length (startCommand (latchFor s opc k a S) s) = (startCommand o s).setDraws n ∧
      o.HasConsumed s opc d.length := by
  obtain ⟨n, hn⟩ := blockRun_bytes d (startCommand (latchFor s opc k a S) s) rfl ho rfl
    (by simpa [startCommand, latchFor] using hlen) (by simpa [startCommand, latchFor] using hbytes)
  refine ⟨_, n, hn, rfl, rfl, rfl, rfl, ?_⟩
  have hlt : d.length < 2 ^ 32 := hlen.trans_lt s.len.isLt
  simpa [startCommand, latchFor] using hlt

/-- The block step that finds the next byte refused ends the command with BUS_ERROR (R63, R101). -/
theorem Latch.HasConsumed.blockStep_refused {s : State} {opc : Opcode} {m : Nat} {o : Latch}
    (h : o.HasConsumed s opc m) (ho : opc.isData = true) (hlt : m < s.len.toNat)
    (hrefused : Memory.read s.mem ((addrOperand s).toNat + m) = none) (n : Nat) :
    blockStep ((startCommand o s).setDraws n) = raiseError .busError ((startCommand o s).setDraws n) := by
  obtain ⟨hactive, hopc, haddr, hlen, hidx⟩ := h
  have hmore : moreBytes ((startCommand o s).setDraws n) = true :=
    (moreBytes_iff _).2 ⟨hopc ▸ ho, by simpa [startCommand, hlen, hidx] using hlt⟩
  have hnext : nextAddr ((startCommand o s).setDraws n) = (addrOperand s).toNat + m := by
    simp [nextAddr, startCommand, haddr, hidx]
  exact blockStep_of_refused hactive hmore (hnext ▸ (memRead_eq_none _ _).2 hrefused)

/-- A data command started on `s`, its first bytes `d` admitted and the next one refused, has ended
with BUS_ERROR after `d.length + 1` block steps (R101). -/
theorem blockRun_startCommand_refused {s : State} {d : List Byte} {opc : Opcode}
    (ho : opc.isData = true) (hlt : d.length < s.len.toNat)
    (hbytes : Memory.bytes? s.mem (addrOperand s).toNat d.length = some d)
    (hrefused : Memory.read s.mem ((addrOperand s).toNat + d.length) = none) (k : Nat) (a : Alg) (S : Word) :
    ∃ o n, blockRun (d.length + 1) (startCommand (latchFor s opc k a S) s) =
      raiseError .busError ((startCommand o s).setDraws n) := by
  obtain ⟨o, n, hrun, ho'⟩ := blockRun_startCommand_bytes ho hlt.le hbytes k a S
  refine ⟨o, n, ?_⟩
  rw [blockRun_add, hrun]
  exact ho'.blockStep_refused ho hlt hrefused n

/-! ## Nothing to do (R113, R128) -/

/-- A host with no access left has no move. -/
theorem hostReady_of_nil {s : State} (h : s.host = []) : hostReady s = false := by
  simp [hostReady, h]

/-- With no command in flight and no host move, a step changes nothing. -/
theorem step_of_nothing_to_do {s : State} (ha : s.op.active = false) (hr : hostReady s = false) :
    step s = .next s := by
  simp [step, advance, ha, hr]

end Sys2Proof.Machine

open Sys2Proof Sys2Proof.Machine

/-- Settles O7: a word is dropped by its issue, and of the three kinds of step only a host step can
clear OVERRUN. -/
theorem overrunDropsTheWord : Obligations.OverrunDropsTheWord := by
  refine ⟨fun w s hb => writeCmd_of_busy hb w, fun s t hstep hs ht => ?_⟩
  rcases step_cases s with ⟨_, _, he⟩ | ⟨_, q, n, he⟩ | ⟨_, q, n, he⟩
  · cases he.symm.trans hstep
    exact absurd (hs.symm.trans ht) Bool.noConfusion
  · cases he.symm.trans hstep
    obtain ⟨_, _, hoverrun, _⟩ := blockStepFrame ((s.setSched q).setDraws n)
    exact absurd (hs.symm.trans (hoverrun.symm.trans ht)) Bool.noConfusion
  · exact hostStep_overrun_cleared (s := (s.setSched q).setDraws n) (he.symm.trans hstep) hs ht

/-- Settles O8: both errors go through `raiseError`, which on an idle block leaves BUSY and the latch
as they are. -/
theorem errorsArePrecise : Obligations.ErrorsArePrecise := by
  refine ⟨fun w s hb ha he => ?_, fun s ha hd hlt hread => ?_⟩
  · rw [writeCmd_of_failed_check hb he, raiseError_of_idle _ hb ha]
  · exact blockStep_of_refused ha ((moreBytes_iff s).2 ⟨hd, hlt⟩) ((memRead_eq_none _ _).2 hread)

/-- Settles O23: the command passes its checks and starts, consumes the admitted bytes, and
`raiseError` at the refused byte writes STATUS and OP.active only. -/
theorem busErrorEndsUncommitted : Obligations.BusErrorEndsUncommitted := by
  intro s d i hb hlen haddr hord hbytes hlt hrefused hi
  have hdata : i.opcode.isData = true := by
    rcases hi with rfl | rfl | ⟨k, rfl, _⟩ <;> rfl
  have hok : firstError (Instr.checks i s) = .noError := by
    have hl : checkLen s = .noError := (checkLen_iff s).2 hlen
    have ha : checkAddr s = .noError := (checkAddr_iff s).2 haddr
    rcases hi with rfl | rfl | ⟨k, rfl, hk, hlive⟩
    · simp [Instr.checks, firstError, hl, ha]
    · simp [Instr.checks, firstError, hl, ha]
    · simp [Instr.checks, firstError, hl, ha, (checkIndex_iff k s).2 hk, (checkLive_iff k s).2 hlive]
  obtain ⟨k, a, S, hexec⟩ := exec_of_data_started hdata hb hok hord
  obtain ⟨o, n, hrun⟩ := blockRun_startCommand_refused hdata hlt hbytes hrefused k a S
  have hlater (m : Nat) : blockRun (d.length + 1 + m) (startCommand (latchFor s i.opcode k a S) s) =
      raiseError .busError ((startCommand o s).setDraws n) := by
    rw [blockRun_add, hrun]
    exact blockRun_of_inactive m _ rfl
  refine ⟨_, hexec, ?_⟩
  rw [hrun]
  exact ⟨rfl, rfl, rfl, rfl, .of_unchanged, .of_unchanged, hlater⟩

/-- Settles O56: a block with an error code is idle, so the step that changes it is the host's. -/
theorem errorCodeStaysUntilTheNextIssue : Obligations.ErrorCodeStaysUntilTheNextIssue := by
  intro s t hinv hstep he hne
  obtain ⟨hb, ha⟩ := hinv.idle_of_error he
  rcases step_cases s with ⟨_, _, hnext⟩ | ⟨hactive, _⟩ | ⟨_, q, n, hnext⟩
  · cases hnext.symm.trans hstep
    exact absurd rfl hne
  · exact absurd (ha.symm.trans hactive) Bool.noConfusion
  · exact (hostStep_errcode_changed (s := (s.setSched q).setDraws n) (hnext.symm.trans hstep) hne).imp_right
      fun hcmd => ⟨hb, hcmd⟩

/-- Settles O57: an idle block has no step, and a host at its end no move. -/
theorem idleBlockKeepsItsState : Obligations.IdleBlockKeepsItsState := by
  rintro s hinv ⟨hhost, hb⟩
  have ha : s.op.active = false := hinv.activeIsBusy.trans hb
  exact ⟨step_of_nothing_to_do ha (hostReady_of_nil hhost), fun n => blockRun_of_inactive n s ha⟩

end

section
/-! PROOF. Reset and the hazards: what the reset event leaves, what it makes of the context commands, and what a host that respects hazards 1 and 3 never sees (R36, R115, R117, R121, R123). -/

namespace Sys2Proof.Machine

/-! ## After reset (R36, R61, R115, R117) -/

/-- Both forms of reset leave the values of R36. -/
theorem resetValues_of_reset {s : State}
    (h : (∃ p, s = State.resetWith p) ∨ ∃ t, s = resetBlock t) : ResetValues s := by
  obtain ⟨p, rfl⟩ | ⟨t, rfl⟩ := h
  · exact resetValues_resetWith p
  · exact resetValues_resetBlock t

/-- A command that needs a constructed context fails the third check of R61 on one that is free. -/
theorem firstError_checks_of_free {i : Instr} {s : State} (hlive : Opcode.needsLive i.opcode = true)
    (hk : i.ctx < s.params.nCtx) (hfree : (ctxAt s i.ctx).valid = false) :
    firstError (Instr.checks i s) = .ctxInvalid := by
  cases i with
  | crc32 | crc32c | newCrc32 | newCrc32c => cases hlive
  | update k | checksum k | drop k =>
    have hindex : checkIndex k s = .noError := (checkIndex_iff k s).2 hk
    have hctx : checkLive k s = .ctxInvalid := (checkLive_eq k s).trans (if_pos hfree)
    simp [Instr.checks, firstError, hindex, hctx]

/-- The reset event is a move the host always has. -/
theorem hostReady_of_reset {s : State} {rest : List HostOp} (h : s.host = .reset :: rest) :
    hostReady s = true := by
  simp [hostReady, h]

/-- The host step that takes the reset event resets the block (R115). -/
theorem hostStep_of_reset {s : State} {rest : List HostOp} (h : s.host = .reset :: rest) :
    hostStep s = .next (resetBlock (s.setHost rest)) := by
  simp [hostStep, h, hostOp]

/-! ## Who sets OVERRUN (R102, R121) -/

/-- No STATUS write sets OVERRUN (R31). -/
theorem Status.overrun_of_write {v : Word} {st : Status} (h : (st.write v).overrun = true) :
    st.overrun = true := by
  simp only [Status.write] at h
  split at h
  · cases h
  · exact h

/-- A host step that sets OVERRUN takes a CMD write, and takes it while BUSY. -/
theorem hostStep_overrun_set {s t : State} (h : hostStep s = .next t)
    (hs : s.status.overrun = false) (ht : t.status.overrun = true) :
    s.status.busy = true ∧ ∃ w rest, s.host = wrReg s.params .cmd w :: rest := by
  have hne : t.status.overrun ≠ s.status.overrun := by simp [hs, ht]
  obtain ⟨o, rest, hhost, heff⟩ := hostStep_statusEffect h fun he => hne (congrArg Status.overrun he)
  cases heff with
  | kept he => exact absurd (congrArg Status.overrun he) hne
  | written v => exact absurd (hs.symm.trans (Status.overrun_of_write ht)) Bool.noConfusion
  | issued w hi => exact ⟨Bool.eq_true_of_not_eq_false fun hb => hne (hi.overrun hb), w, rest, hhost⟩
  | reset => cases ht

/-- A host that respects hazard 1 has no CMD write next while BUSY (R121). -/
theorem noOverrunHazard.not_cmd {s : State} (h : noOverrunHazard s) (hb : s.status.busy = true)
    {w : Word} {rest : List HostOp} : s.host ≠ wrReg s.params .cmd w :: rest :=
  fun hhost => h hb _ _ _ _ hhost (targetOf_reg s.params .cmd)

/-! ## Who races a byte (R51, R123) -/

/-- A store outside the buffer in flight races no byte. -/
theorem storeByte_raced_of_outside {a : Nat} {b old : Byte} {s : State}
    (h : inFlightBuffer s a = false) : (storeByte a b old s).raced = s.raced := by
  simp [storeByte, h]

/-- An issue races no byte: it leaves the raced bytes alone or forgets them all. -/
theorem Issued.raced {s t : State} (h : Issued s t) : t.raced = s.raced ∨ t.raced = [] := by
  cases h with
  | dropped | refused => exact .inl rfl
  | started => exact .inr rfl

/-- A write to any other register than CMD leaves the raced bytes alone. -/
theorem writeReg_raced {r : Reg} {v : Word} {s t : State} (hr : r ≠ .cmd)
    (h : writeReg r v s = .next t) : t.raced = s.raced := by
  cases r with
  | cmd => exact absurd rfl hr
  | ctrl =>
    cases h
    unfold writeCtrl
    split <;> rfl
  | addrHi =>
    cases h
    unfold writeAddrHi
    split <;> rfl
  | status | cap | prev | addrLo | len | result | reserved =>
    cases h
    rfl

/-- A host access leaves the raced bytes alone, or forgets them all, or is a store into the buffer in
flight. -/
theorem hostOp_raced {o : HostOp} {s t : State} (h : hostOp o s = .next t) :
    t.raced = s.raced ∨ t.raced = [] ∨ ∃ a b, o = .store a b ∧ inFlightBuffer s a = true := by
  cases o with
  | wr a w v =>
    simp only [hostOp] at h
    split at h
    · rename_i r _
      by_cases hr : r = .cmd
      · subst hr
        exact (writeCmd_issued h).raced.imp_right .inl
      · exact .inl (writeReg_raced hr h)
    · cases h
    · cases h
  | rd a w =>
    simp only [hostOp] at h
    split at h <;> cases h
    exact .inl rfl
  | wait =>
    cases h
    exact .inl rfl
  | store a b =>
    cases hin : inFlightBuffer s a with
    | true => exact .inr (.inr ⟨a, b, rfl, hin⟩)
    | false =>
      simp only [hostOp] at h
      split at h
      · cases h
      · split at h <;> cases h
        exact .inl (storeByte_raced_of_outside hin)
  | reset =>
    cases h
    exact .inr (.inl rfl)

/-- Where no byte is raced, a host step that respects hazard 3 races none (R123). -/
theorem hostStep_raced_eq_nil {s t : State} (h : hostStep s = .next t) (hz : noBufferHazard s)
    (hs : s.raced = []) : t.raced = [] := by
  rcases hostStep_cases s with ⟨_, he⟩ | ⟨o, rest, hhost, he⟩
  · cases he.symm.trans h
    exact hs
  · rcases hostOp_raced (he.symm.trans h) with hr | hr | ⟨a, b, rfl, hin⟩
    · exact hr.trans hs
    · exact hr
    · exact absurd ((hz a b rest hhost).symm.trans hin) Bool.false_ne_true

/-- No block step races a byte. -/
theorem blockStep_raced (s : State) : (blockStep s).raced = s.raced := by
  rcases blockStep_cases s with ⟨_, he⟩ | ⟨_, _, b, _, he⟩ | ⟨_, _, _, he⟩ | ⟨_, _, he⟩ <;> rw [he]
  · rfl
  · rfl
  · unfold complete ownWrites
    split <;> rfl

end Sys2Proof.Machine

open Sys2Proof Sys2Proof.Machine

/-- Settles O39: a reset leaves the block idle and every context free, so the third check of R61
refuses the command at issue. -/
theorem noContextSurvivesReset : Obligations.NoContextSurvivesReset := by
  intro s k i hs hk hi
  have hv : ResetValues s := resetValues_of_reset hs
  have hfree : (ctxAt s k).valid = false := ctxAt_invalid hv.noneValid k
  have he : firstError (Instr.checks i s) = .ctxInvalid := by
    rcases hi with rfl | rfl | rfl <;> exact firstError_checks_of_free rfl hk hfree
  have hne : firstError (Instr.checks i s) ≠ .noError := by simp [he]
  exact ⟨_, exec_of_failed_check (congrArg Status.busy hv.status) hne, he, rfl, rfl, hv.result⟩

/-- Settles O54: of the three kinds of step only a host step can set OVERRUN, and only by a CMD write
while BUSY, which is the hazard. -/
theorem noOverrunWithoutTheHazard : Obligations.NoOverrunWithoutTheHazard := by
  intro s t hstep hz hs
  rcases step_cases s with ⟨_, _, he⟩ | ⟨_, q, n, he⟩ | ⟨_, q, n, he⟩
  · cases he.symm.trans hstep
    exact hs
  · cases he.symm.trans hstep
    obtain ⟨_, _, hoverrun, _⟩ := blockStepFrame ((s.setSched q).setDraws n)
    exact hoverrun.trans hs
  · refine Bool.eq_false_iff.2 fun ht => ?_
    obtain ⟨hb, w, rest, hhost⟩ :=
      hostStep_overrun_set (s := (s.setSched q).setDraws n) (he.symm.trans hstep) hs ht
    exact hz.not_cmd hb hhost

/-- Settles O55: of the three kinds of step only a host step can race a byte, and only by a store into
the buffer in flight, which is the hazard; a byte that was not raced reads as it stands. -/
theorem noRaceWithoutTheHazard : Obligations.NoRaceWithoutTheHazard := by
  intro s t hstep hz hs
  have ht : t.raced = [] := by
    rcases step_cases s with ⟨_, _, he⟩ | ⟨_, q, n, he⟩ | ⟨_, q, n, he⟩
    · cases he.symm.trans hstep
      exact hs
    · cases he.symm.trans hstep
      exact (blockStep_raced _).trans hs
    · exact hostStep_raced_eq_nil (s := (s.setSched q).setDraws n) (he.symm.trans hstep) hz hs
  exact ⟨ht, fun a => memRead_of_not_raced t a (by rw [ht]; rfl)⟩

/-- Settles O38: the host step on the reset event is `resetBlock`, which leaves the values of R36 and
writes nothing but the block. -/
theorem resetInputAbandonsTheCommand : Obligations.ResetInputAbandonsTheCommand := by
  intro s rest hs
  have hv : ResetValues (resetBlock (s.setHost rest)) := resetValues_resetBlock _
  obtain ⟨hstatus, hctrl, _⟩ := resetLeavesTheStatedValues _ (.inr ⟨s.setHost rest, rfl⟩)
  exact ⟨hostReady_of_reset hs, _, hostStep_of_reset hs, hv.inactive, hv.status, hstatus, hctrl,
    hv.forceSerial, hv.prev, hv.addrLo, hv.addrHi, hv.len, hv.result, rfl, hv.ctxCount,
    ctxAt_invalid hv.noneValid, fun _ => rfl, rfl, rfl, rfl, rfl,
    fun n => blockRun_of_inactive n _ hv.inactive⟩

end
